-- ==== Sys2Proof/Word.lean ====
section
/-!
DEFINITION. The two data widths of the FS8 core (00_scope.md R7, R8): 8-bit octets and 16-bit words.
Bit 0 is the least significant bit; values are unsigned unless a rule says otherwise.
-/

namespace Sys2Proof

/-- An 8-bit value, 0..255 (00_scope.md R8). -/
abbrev Byte := BitVec 8

/-- A 16-bit value or address, 0..65535 (00_scope.md R8, 20_memory.md R51). -/
abbrev Word := BitVec 16

/-- A 4-bit field of the register-pair byte, before it is checked to name a register (30_encoding.md R73). -/
abbrev RegCode := BitVec 4

end Sys2Proof
end

