-- ==== Sys2Proof/Config.lean ====
section
/-!
DEFINITION. The implementation parameters of 00_scope.md R7, and the free values the spec leaves open.

The parameters are plain data that State carries and no step changes, so that every statement over all states
holds for every MEM_SIZE, BOOT_ADDR, VIDEO_BASE, VIDEO_SIZE and OPCODE_MAP (log entry 2). The sixth parameter,
SYS_HANDLER, speaks of states: it is `State.sysHandler` in Machine/State.lean (log entry 8).
-/

namespace Sys2Proof

/-- A numbering of the instructions: each pair is a byte and the opcode that the spec's own map (30_encoding.md R77)
has for the instruction the byte stands for. A byte in no pair is unassigned. -/
abbrev OpcodeNumbering := List (Byte × Byte)

/-- The parameters of 00_scope.md R7, but for SYS_HANDLER. -/
structure Config where
  /-- MEM_SIZE, the number of addressable bytes (R7, 20_memory.md R50). -/
  memSize : Nat
  /-- BOOT_ADDR, the PC after Reset (R7, 70_reset_and_hazards.md R231). -/
  bootAddr : Word
  /-- VIDEO_BASE, the framebuffer's first address; no core rule reads it (R7, 20_memory.md R62). -/
  videoBase : Nat
  /-- VIDEO_SIZE, the framebuffer's size; no core rule reads it (R7, 20_memory.md R62). -/
  videoSize : Nat
  /-- OPCODE_MAP, the byte value of each instruction: `none` is the spec's own map, the default; another numbering is
  substituted by its pairs (R7, 30_encoding.md R76, R77; log entry 15). -/
  opcodeMap : Option OpcodeNumbering
deriving DecidableEq, Repr

/-- A numbering gives a byte one meaning (30_encoding.md R80) and an instruction one byte (R7). -/
def OpcodeNumbering.wf (l : OpcodeNumbering) : Bool :=
  decide (l.map Prod.fst).Nodup && decide (l.map Prod.snd).Nodup

/-- The ranges the parameters must lie in: 1 <= MEM_SIZE <= 65536 (R7, D12), VIDEO_BASE + VIDEO_SIZE <= MEM_SIZE (D14),
and a numbering that is one. -/
def Config.wf (c : Config) : Bool :=
  decide (1 ≤ c.memSize) && decide (c.memSize ≤ 65536) && decide (c.videoBase + c.videoSize ≤ c.memSize) &&
    c.opcodeMap.all OpcodeNumbering.wf

/-- The parameters `State.reset` uses. MEM_SIZE and OPCODE_MAP are the spec's defaults (R7, D12, D1). BOOT_ADDR is OPEN in the spec:
DESIGN CHOICE 0x0000, unsafe (log entry 1). The framebuffer bounds are OPEN: DESIGN CHOICE an empty range at the
top of memory, safe because no core rule reads them (log entry 3). -/
def Config.standard : Config where
  memSize := 65536
  bootAddr := 0x0000#16
  videoBase := 65536
  videoSize := 0
  opcodeMap := none

/-- The addresses of the framebuffer, which is plain memory to the core (20_memory.md R60, R62). -/
def Config.inVideo (c : Config) (a : Nat) : Bool :=
  decide (c.videoBase ≤ a) && decide (a < c.videoBase + c.videoSize)

/-- FREE VALUE. The Overflow flag after the k-th draw of a run: 10_state.md R30 says that a model draws it freely
from 0 and 1. No body, so nothing can be proved of it (log entry 5). -/
opaque Config.overflowDraw : Nat → Bool

/-- FREE VALUE. Whether a word write whose second byte faults has written its first byte, at the k-th draw of a run:
20_memory.md R55 leaves it unspecified. No body (log entry 6). -/
opaque Config.partialWordWritten : Nat → Bool

/-- FREE VALUE. The byte the launch memory has at an address: 10_state.md R39 says that a model takes it as an arbitrary
input, never as zero. No body, so nothing can be proved of it (log entry 4). -/
opaque Config.launchByte : Nat → Byte

end Sys2Proof
end

