-- ==== Sys2Proof/Syntax.lean ====
section
/-!
DEFINITION. The names of the registers and the instructions of FS8: one constructor of `Instr` for each of the
152 rows of spec/opcode_table.json (30_encoding.md R77).

Operands are held as the instruction holds them: an 8-bit immediate, service number, signed displacement or signed
offset is a `Byte`; a 16-bit immediate or address is a `Word`; the two fields of a register-pair byte are `RegCode`s,
because a field of 6 to 15 is still an instruction, one that raises InvalidRegisterIdentifier (R73, R79).
-/

namespace Sys2Proof

/-- The 8-bit registers A-F (10_state.md R20). F is a general register, not the flags. -/
inductive Reg8 where
  | a | b | c | d | e | f
deriving DecidableEq, Repr

/-- The 16-bit registers: the pairs DA and DB (10_state.md R22), the index pointers IDX and IDY (R23), PC (R24) and
SP (R25). -/
inductive Reg16 where
  | da | db | idx | idy | pc | sp
deriving DecidableEq, Repr

/-- The four instruction formats (30_encoding.md R71). -/
inductive Format where
  /-- The opcode alone. -/
  | f0
  /-- Opcode, then an imm8, service number, signed displacement or signed offset. -/
  | f1
  /-- Opcode, then a register-pair byte. -/
  | f2
  /-- Opcode, then the low and the high octet of a 16-bit operand. -/
  | f3
deriving DecidableEq, Repr

/-- The instructions of FS8, in the order of the opcode map (30_encoding.md R77). -/
inductive Instr where
  /-- 0x00 `NOP` (R92). -/
  | nop
  /-- 0x01 `HALT` (R93). -/
  | halt
  /-- 0x02 `SYS n` (R94). -/
  | sys (n : Byte)
  /-- 0x08 `LDA #n` (R100). -/
  | ldaImm (n : Byte)
  /-- 0x09 `LDB #n` (R100). -/
  | ldbImm (n : Byte)
  /-- 0x0A `LDC #n` (R100). -/
  | ldcImm (n : Byte)
  /-- 0x0B `LDD #n` (R100). -/
  | lddImm (n : Byte)
  /-- 0x0C `LDE #n` (R100). -/
  | ldeImm (n : Byte)
  /-- 0x0D `LDF #n` (R100). -/
  | ldfImm (n : Byte)
  /-- 0x0E `LDDA #nn` (R102). -/
  | lddaImm (nn : Word)
  /-- 0x0F `LDDB #nn` (R102). -/
  | lddbImm (nn : Word)
  /-- 0x10 `LDA $a` (R101). -/
  | ldaAbs (a : Word)
  /-- 0x11 `LDB $a` (R101). -/
  | ldbAbs (a : Word)
  /-- 0x12 `LDC $a` (R101). -/
  | ldcAbs (a : Word)
  /-- 0x13 `LDD $a` (R101). -/
  | lddAbs (a : Word)
  /-- 0x14 `LDE $a` (R101). -/
  | ldeAbs (a : Word)
  /-- 0x15 `LDF $a` (R101). -/
  | ldfAbs (a : Word)
  /-- 0x16 `LDDA $a` (R103). -/
  | lddaAbs (a : Word)
  /-- 0x17 `LDDB $a` (R103). -/
  | lddbAbs (a : Word)
  /-- 0x18 `STA $a` (R160). -/
  | staAbs (a : Word)
  /-- 0x19 `STB $a` (R160). -/
  | stbAbs (a : Word)
  /-- 0x1A `STC $a` (R160). -/
  | stcAbs (a : Word)
  /-- 0x1B `STD $a` (R160). -/
  | stdAbs (a : Word)
  /-- 0x1C `STE $a` (R160). -/
  | steAbs (a : Word)
  /-- 0x1D `STF $a` (R160). -/
  | stfAbs (a : Word)
  /-- 0x1E `STDA $a` (R161). -/
  | stdaAbs (a : Word)
  /-- 0x1F `STDB $a` (R161). -/
  | stdbAbs (a : Word)
  /-- 0x20 `INC A` (R123). -/
  | incA
  /-- 0x21 `INC B` (R123). -/
  | incB
  /-- 0x22 `INC C` (R123). -/
  | incC
  /-- 0x23 `INC D` (R123). -/
  | incD
  /-- 0x24 `INC E` (R123). -/
  | incE
  /-- 0x25 `INC F` (R123). -/
  | incF
  /-- 0x26 `INC DA` (R128). -/
  | incDa
  /-- 0x27 `INC DB` (R128). -/
  | incDb
  /-- 0x28 `DEC A` (R124). -/
  | decA
  /-- 0x29 `DEC B` (R124). -/
  | decB
  /-- 0x2A `DEC C` (R124). -/
  | decC
  /-- 0x2B `DEC D` (R124). -/
  | decD
  /-- 0x2C `DEC E` (R124). -/
  | decE
  /-- 0x2D `DEC F` (R124). -/
  | decF
  /-- 0x2E `DEC DA` (R129). -/
  | decDa
  /-- 0x2F `DEC DB` (R129). -/
  | decDb
  /-- 0x30 `NOT A` (R133). -/
  | notA
  /-- 0x31 `NOT B` (R133). -/
  | notB
  /-- 0x32 `NOT C` (R133). -/
  | notC
  /-- 0x33 `NOT D` (R133). -/
  | notD
  /-- 0x34 `NOT E` (R133). -/
  | notE
  /-- 0x35 `NOT F` (R133). -/
  | notF
  /-- 0x38 `SHL A` (R134). -/
  | shlA
  /-- 0x39 `SHL B` (R134). -/
  | shlB
  /-- 0x3A `SHL C` (R134). -/
  | shlC
  /-- 0x3B `SHL D` (R134). -/
  | shlD
  /-- 0x3C `SHL E` (R134). -/
  | shlE
  /-- 0x3D `SHL F` (R134). -/
  | shlF
  /-- 0x40 `SHR A` (R135). -/
  | shrA
  /-- 0x41 `SHR B` (R135). -/
  | shrB
  /-- 0x42 `SHR C` (R135). -/
  | shrC
  /-- 0x43 `SHR D` (R135). -/
  | shrD
  /-- 0x44 `SHR E` (R135). -/
  | shrE
  /-- 0x45 `SHR F` (R135). -/
  | shrF
  /-- 0x48 `PUSH A` (R168). -/
  | pushA
  /-- 0x49 `PUSH B` (R168). -/
  | pushB
  /-- 0x4A `PUSH C` (R168). -/
  | pushC
  /-- 0x4B `PUSH D` (R168). -/
  | pushD
  /-- 0x4C `PUSH E` (R168). -/
  | pushE
  /-- 0x4D `PUSH F` (R168). -/
  | pushF
  /-- 0x4E `PUSH DA` (R170). -/
  | pushDa
  /-- 0x4F `PUSH DB` (R170). -/
  | pushDb
  /-- 0x50 `POP A` (R169). -/
  | popA
  /-- 0x51 `POP B` (R169). -/
  | popB
  /-- 0x52 `POP C` (R169). -/
  | popC
  /-- 0x53 `POP D` (R169). -/
  | popD
  /-- 0x54 `POP E` (R169). -/
  | popE
  /-- 0x55 `POP F` (R169). -/
  | popF
  /-- 0x56 `POP DA` (R171). -/
  | popDa
  /-- 0x57 `POP DB` (R171). -/
  | popDb
  /-- 0x58 `CMP A,#n` (R136). -/
  | cmpAImm (n : Byte)
  /-- 0x59 `CMP B,#n` (R136). -/
  | cmpBImm (n : Byte)
  /-- 0x5A `CMP C,#n` (R136). -/
  | cmpCImm (n : Byte)
  /-- 0x5B `CMP D,#n` (R136). -/
  | cmpDImm (n : Byte)
  /-- 0x5C `CMP E,#n` (R136). -/
  | cmpEImm (n : Byte)
  /-- 0x5D `CMP F,#n` (R136). -/
  | cmpFImm (n : Byte)
  /-- 0x5E `CMP DA,#nn` (R137). -/
  | cmpDaImm (nn : Word)
  /-- 0x5F `CMP DB,#nn` (R137). -/
  | cmpDbImm (nn : Word)
  /-- 0x60 `ADD r,r'` (R120). -/
  | addReg (dst src : RegCode)
  /-- 0x61 `SUB r,r'` (R121). -/
  | subReg (dst src : RegCode)
  /-- 0x62 `CMP r,r'` (R122). -/
  | cmpReg (dst src : RegCode)
  /-- 0x63 `AND r,r'` (R130). -/
  | andReg (dst src : RegCode)
  /-- 0x64 `OR r,r'` (R131). -/
  | orReg (dst src : RegCode)
  /-- 0x65 `XOR r,r'` (R132). -/
  | xorReg (dst src : RegCode)
  /-- 0x66 `MOV r,r'` (R190). -/
  | movReg (dst src : RegCode)
  /-- 0x67 `SWAP r,r'` (R191). -/
  | swapReg (dst src : RegCode)
  /-- 0x68 `ADD DA,DB` (R125). -/
  | addDaDb
  /-- 0x69 `ADD DB,DA` (R125). -/
  | addDbDa
  /-- 0x6A `SUB DA,DB` (R126). -/
  | subDaDb
  /-- 0x6B `SUB DB,DA` (R126). -/
  | subDbDa
  /-- 0x6C `CMP DA,DB` (R127). -/
  | cmpDaDb
  /-- 0x6D `CMP DB,DA` (R127). -/
  | cmpDbDa
  /-- 0x70 `MOV DA,DB` (R192). -/
  | movDaDb
  /-- 0x71 `MOV DB,DA` (R192). -/
  | movDbDa
  /-- 0x72 `SWAP DA,DB` (R193). -/
  | swapDaDb
  /-- 0x73 `MOV DA,IDX` (R194). -/
  | movDaIdx
  /-- 0x74 `MOV DA,IDY` (R194). -/
  | movDaIdy
  /-- 0x75 `MOV DB,IDX` (R194). -/
  | movDbIdx
  /-- 0x76 `MOV DB,IDY` (R194). -/
  | movDbIdy
  /-- 0x77 `MOV IDX,DA` (R195). -/
  | movIdxDa
  /-- 0x78 `MOV IDY,DA` (R195). -/
  | movIdyDa
  /-- 0x79 `MOV IDX,DB` (R195). -/
  | movIdxDb
  /-- 0x7A `MOV IDY,DB` (R195). -/
  | movIdyDb
  /-- 0x7B `MOV IDX,IDY` (R196). -/
  | movIdxIdy
  /-- 0x7C `MOV IDY,IDX` (R196). -/
  | movIdyIdx
  /-- 0x7D `SWAP IDX,IDY` (R197). -/
  | swapIdxIdy
  /-- 0x80 `JMP $a` (R140). -/
  | jmp (a : Word)
  /-- 0x81 `JZ $a` (R141). -/
  | jz (a : Word)
  /-- 0x82 `JNZ $a` (R142). -/
  | jnz (a : Word)
  /-- 0x83 `JC $a` (R143). -/
  | jc (a : Word)
  /-- 0x84 `JNC $a` (R144). -/
  | jnc (a : Word)
  /-- 0x85 `JN $a` (R145). -/
  | jn (a : Word)
  /-- 0x86 `JNN $a` (R146). -/
  | jnn (a : Word)
  /-- 0x88 `CALL $a` (R147). -/
  | call (a : Word)
  /-- 0x89 `RET` (R148). -/
  | ret
  /-- 0x8A `JR d` (R149). -/
  | jr (d : Byte)
  /-- 0x8B `JRZ d` (R150). -/
  | jrz (d : Byte)
  /-- 0x8C `JRNZ d` (R151). -/
  | jrnz (d : Byte)
  /-- 0x8D `JRC d` (R152). -/
  | jrc (d : Byte)
  /-- 0x90 `LDIX #nn` (R104). -/
  | ldixImm (nn : Word)
  /-- 0x91 `LDIY #nn` (R104). -/
  | ldiyImm (nn : Word)
  /-- 0x92 `LDIX $a` (R105). -/
  | ldixAbs (a : Word)
  /-- 0x93 `LDIY $a` (R105). -/
  | ldiyAbs (a : Word)
  /-- 0x94 `INC IDX` (R184). -/
  | incIdx
  /-- 0x95 `INC IDY` (R184). -/
  | incIdy
  /-- 0x96 `DEC IDX` (R185). -/
  | decIdx
  /-- 0x97 `DEC IDY` (R185). -/
  | decIdy
  /-- 0x98 `ADD IDX,#n` (R186). -/
  | addIdxImm (n : Byte)
  /-- 0x99 `ADD IDY,#n` (R186). -/
  | addIdyImm (n : Byte)
  /-- 0xA0 `LDA (IDX)` (R176). -/
  | ldaIdx
  /-- 0xA1 `LDA (IDY)` (R176). -/
  | ldaIdy
  /-- 0xA2 `STA (IDX)` (R177). -/
  | staIdx
  /-- 0xA3 `STA (IDY)` (R177). -/
  | staIdy
  /-- 0xA4 `LDA (IDX+d)` (R178). -/
  | ldaIdxDisp (d : Byte)
  /-- 0xA5 `LDA (IDY+d)` (R178). -/
  | ldaIdyDisp (d : Byte)
  /-- 0xA6 `STA (IDX+d)` (R179). -/
  | staIdxDisp (d : Byte)
  /-- 0xA7 `STA (IDY+d)` (R179). -/
  | staIdyDisp (d : Byte)
  /-- 0xA8 `LDA (IDX)+` (R180). -/
  | ldaIdxInc
  /-- 0xA9 `LDA (IDY)+` (R180). -/
  | ldaIdyInc
  /-- 0xAA `STA (IDX)+` (R181). -/
  | staIdxInc
  /-- 0xAB `STA (IDY)+` (R181). -/
  | staIdyInc
  /-- 0xAC `LDA (IDX)-` (R182). -/
  | ldaIdxDec
  /-- 0xAD `LDA (IDY)-` (R182). -/
  | ldaIdyDec
  /-- 0xAE `STA (IDX)-` (R183). -/
  | staIdxDec
  /-- 0xAF `STA (IDY)-` (R183). -/
  | staIdyDec
deriving DecidableEq, Repr

/-- The format of an instruction, as the map of 30_encoding.md R77 lists it. -/
def Instr.format : Instr → Format
  | .nop | .halt | .incA | .incB | .incC | .incD | .incE | .incF | .incDa | .incDb | .decA | .decB | .decC
  | .decD | .decE | .decF | .decDa | .decDb | .notA | .notB | .notC | .notD | .notE | .notF | .shlA | .shlB
  | .shlC | .shlD | .shlE | .shlF | .shrA | .shrB | .shrC | .shrD | .shrE | .shrF | .pushA | .pushB | .pushC
  | .pushD | .pushE | .pushF | .pushDa | .pushDb | .popA | .popB | .popC | .popD | .popE | .popF | .popDa
  | .popDb | .addDaDb | .addDbDa | .subDaDb | .subDbDa | .cmpDaDb | .cmpDbDa | .movDaDb | .movDbDa | .swapDaDb
  | .movDaIdx | .movDaIdy | .movDbIdx | .movDbIdy | .movIdxDa | .movIdyDa | .movIdxDb | .movIdyDb | .movIdxIdy
  | .movIdyIdx | .swapIdxIdy | .ret | .incIdx | .incIdy | .decIdx | .decIdy | .ldaIdx | .ldaIdy | .staIdx
  | .staIdy | .ldaIdxInc | .ldaIdyInc | .staIdxInc | .staIdyInc | .ldaIdxDec | .ldaIdyDec | .staIdxDec
  | .staIdyDec => .f0
  | .sys _ | .ldaImm _ | .ldbImm _ | .ldcImm _ | .lddImm _ | .ldeImm _ | .ldfImm _ | .cmpAImm _ | .cmpBImm _
  | .cmpCImm _ | .cmpDImm _ | .cmpEImm _ | .cmpFImm _ | .jr _ | .jrz _ | .jrnz _ | .jrc _ | .addIdxImm _
  | .addIdyImm _ | .ldaIdxDisp _ | .ldaIdyDisp _ | .staIdxDisp _ | .staIdyDisp _ => .f1
  | .addReg _ _ | .subReg _ _ | .cmpReg _ _ | .andReg _ _ | .orReg _ _ | .xorReg _ _ | .movReg _ _
  | .swapReg _ _ => .f2
  | .lddaImm _ | .lddbImm _ | .ldaAbs _ | .ldbAbs _ | .ldcAbs _ | .lddAbs _ | .ldeAbs _ | .ldfAbs _
  | .lddaAbs _ | .lddbAbs _ | .staAbs _ | .stbAbs _ | .stcAbs _ | .stdAbs _ | .steAbs _ | .stfAbs _
  | .stdaAbs _ | .stdbAbs _ | .cmpDaImm _ | .cmpDbImm _ | .jmp _ | .jz _ | .jnz _ | .jc _ | .jnc _ | .jn _
  | .jnn _ | .call _ | .ldixImm _ | .ldiyImm _ | .ldixAbs _ | .ldiyAbs _ => .f3

/-- How many octets an instruction of each format has (30_encoding.md R71, R81). -/
def Format.octets : Format → Nat
  | .f0 => 1
  | .f1 => 2
  | .f2 => 2
  | .f3 => 3

end Sys2Proof
end

