-- ==== Sys2Proof/WellFormed.lean ====
section
/-!
DEFINITION. Which instructions are well formed. Only the register-pair byte can be ill formed: a field of 6 to 15
names no register (30_encoding.md R73). Such an instruction still runs: its meaning raises InvalidRegisterIdentifier
(R79).
-/

namespace Sys2Proof

/-- A field of the register-pair byte names a register exactly when it is 0 to 5 (30_encoding.md R73). -/
def RegCode.valid (c : RegCode) : Bool := decide (c.toNat ≤ 5)

/-- Both fields of a format-F2 instruction name registers; every other instruction is well formed. -/
def Instr.wellFormed : Instr → Bool
  | .addReg dst src | .subReg dst src | .cmpReg dst src | .andReg dst src | .orReg dst src | .xorReg dst src
  | .movReg dst src | .swapReg dst src =>
    RegCode.valid dst && RegCode.valid src
  | .nop | .halt | .sys _ | .ldaImm _ | .ldbImm _ | .ldcImm _ | .lddImm _ | .ldeImm _ | .ldfImm _ | .lddaImm _
  | .lddbImm _ | .ldaAbs _ | .ldbAbs _ | .ldcAbs _ | .lddAbs _ | .ldeAbs _ | .ldfAbs _ | .lddaAbs _
  | .lddbAbs _ | .staAbs _ | .stbAbs _ | .stcAbs _ | .stdAbs _ | .steAbs _ | .stfAbs _ | .stdaAbs _
  | .stdbAbs _ | .incA | .incB | .incC | .incD | .incE | .incF | .incDa | .incDb | .decA | .decB | .decC
  | .decD | .decE | .decF | .decDa | .decDb | .notA | .notB | .notC | .notD | .notE | .notF | .shlA | .shlB
  | .shlC | .shlD | .shlE | .shlF | .shrA | .shrB | .shrC | .shrD | .shrE | .shrF | .pushA | .pushB | .pushC
  | .pushD | .pushE | .pushF | .pushDa | .pushDb | .popA | .popB | .popC | .popD | .popE | .popF | .popDa
  | .popDb | .cmpAImm _ | .cmpBImm _ | .cmpCImm _ | .cmpDImm _ | .cmpEImm _ | .cmpFImm _ | .cmpDaImm _
  | .cmpDbImm _ | .addDaDb | .addDbDa | .subDaDb | .subDbDa | .cmpDaDb | .cmpDbDa | .movDaDb | .movDbDa
  | .swapDaDb | .movDaIdx | .movDaIdy | .movDbIdx | .movDbIdy | .movIdxDa | .movIdyDa | .movIdxDb | .movIdyDb
  | .movIdxIdy | .movIdyIdx | .swapIdxIdy | .jmp _ | .jz _ | .jnz _ | .jc _ | .jnc _ | .jn _ | .jnn _ | .call _
  | .ret | .jr _ | .jrz _ | .jrnz _ | .jrc _ | .ldixImm _ | .ldiyImm _ | .ldixAbs _ | .ldiyAbs _ | .incIdx
  | .incIdy | .decIdx | .decIdy | .addIdxImm _ | .addIdyImm _ | .ldaIdx | .ldaIdy | .staIdx | .staIdy
  | .ldaIdxDisp _ | .ldaIdyDisp _ | .staIdxDisp _ | .staIdyDisp _ | .ldaIdxInc | .ldaIdyInc | .staIdxInc
  | .staIdyInc | .ldaIdxDec | .ldaIdyDec | .staIdxDec | .staIdyDec => true

end Sys2Proof
end

