-- ==== Sys2Proof/Decode.lean ====
section
/-!
DEFINITION. Octets to instructions and back (30_encoding.md). `opcodeMap` is the opcode table of R77, written once:
the decoder and the fetch both read it, through the numbering that OPCODE_MAP substitutes (00_scope.md R7). `encode` is
written from the same table.
-/

namespace Sys2Proof

/-- `concat(hi8, lo8)` of 00_scope.md R8: the 16-bit value hi * 256 + lo. -/
def concat (hi lo : Byte) : Word := hi ++ lo

/-- `v[7:0]`, the low octet of a word, stored at the lower address (20_memory.md R56). -/
def lowByte (v : Word) : Byte := v.extractLsb' 0 8

/-- `v[15:8]`, the high octet of a word. -/
def highByte (v : Word) : Byte := v.extractLsb' 8 8

/-- The destination code of a register-pair byte, bits [7:4] (30_encoding.md R73). -/
def pairDst (rr : Byte) : RegCode := rr.extractLsb' 4 4

/-- The source code of a register-pair byte, bits [3:0] (30_encoding.md R73). -/
def pairSrc (rr : Byte) : RegCode := rr.extractLsb' 0 4

/-- The register-pair byte `dddd ssss` (30_encoding.md R71, R73). -/
def pairByte (dst src : RegCode) : Byte := dst ++ src

/-- One row of the opcode map: the format, with the instruction its operand octets complete. -/
inductive OpcodeRow where
  /-- Format F0: no operand octet. -/
  | f0 (i : Instr)
  /-- Format F1: one operand octet. -/
  | f1 (mk : Byte → Instr)
  /-- Format F2: the destination and source codes of a register-pair byte. -/
  | f2 (mk : RegCode → RegCode → Instr)
  /-- Format F3: a 16-bit operand, low octet first. -/
  | f3 (mk : Word → Instr)

/-- The format of a row. -/
def OpcodeRow.format : OpcodeRow → Format
  | .f0 _ => .f0
  | .f1 _ => .f1
  | .f2 _ => .f2
  | .f3 _ => .f3

/-- The complete opcode map (30_encoding.md R77); `none` is an unassigned opcode (R78). -/
def opcodeMap (op : Byte) : Option OpcodeRow :=
  match op.toNat with
  | 0x00 => some (.f0 .nop)
  | 0x01 => some (.f0 .halt)
  | 0x02 => some (.f1 .sys)
  | 0x08 => some (.f1 .ldaImm)
  | 0x09 => some (.f1 .ldbImm)
  | 0x0A => some (.f1 .ldcImm)
  | 0x0B => some (.f1 .lddImm)
  | 0x0C => some (.f1 .ldeImm)
  | 0x0D => some (.f1 .ldfImm)
  | 0x0E => some (.f3 .lddaImm)
  | 0x0F => some (.f3 .lddbImm)
  | 0x10 => some (.f3 .ldaAbs)
  | 0x11 => some (.f3 .ldbAbs)
  | 0x12 => some (.f3 .ldcAbs)
  | 0x13 => some (.f3 .lddAbs)
  | 0x14 => some (.f3 .ldeAbs)
  | 0x15 => some (.f3 .ldfAbs)
  | 0x16 => some (.f3 .lddaAbs)
  | 0x17 => some (.f3 .lddbAbs)
  | 0x18 => some (.f3 .staAbs)
  | 0x19 => some (.f3 .stbAbs)
  | 0x1A => some (.f3 .stcAbs)
  | 0x1B => some (.f3 .stdAbs)
  | 0x1C => some (.f3 .steAbs)
  | 0x1D => some (.f3 .stfAbs)
  | 0x1E => some (.f3 .stdaAbs)
  | 0x1F => some (.f3 .stdbAbs)
  | 0x20 => some (.f0 .incA)
  | 0x21 => some (.f0 .incB)
  | 0x22 => some (.f0 .incC)
  | 0x23 => some (.f0 .incD)
  | 0x24 => some (.f0 .incE)
  | 0x25 => some (.f0 .incF)
  | 0x26 => some (.f0 .incDa)
  | 0x27 => some (.f0 .incDb)
  | 0x28 => some (.f0 .decA)
  | 0x29 => some (.f0 .decB)
  | 0x2A => some (.f0 .decC)
  | 0x2B => some (.f0 .decD)
  | 0x2C => some (.f0 .decE)
  | 0x2D => some (.f0 .decF)
  | 0x2E => some (.f0 .decDa)
  | 0x2F => some (.f0 .decDb)
  | 0x30 => some (.f0 .notA)
  | 0x31 => some (.f0 .notB)
  | 0x32 => some (.f0 .notC)
  | 0x33 => some (.f0 .notD)
  | 0x34 => some (.f0 .notE)
  | 0x35 => some (.f0 .notF)
  | 0x38 => some (.f0 .shlA)
  | 0x39 => some (.f0 .shlB)
  | 0x3A => some (.f0 .shlC)
  | 0x3B => some (.f0 .shlD)
  | 0x3C => some (.f0 .shlE)
  | 0x3D => some (.f0 .shlF)
  | 0x40 => some (.f0 .shrA)
  | 0x41 => some (.f0 .shrB)
  | 0x42 => some (.f0 .shrC)
  | 0x43 => some (.f0 .shrD)
  | 0x44 => some (.f0 .shrE)
  | 0x45 => some (.f0 .shrF)
  | 0x48 => some (.f0 .pushA)
  | 0x49 => some (.f0 .pushB)
  | 0x4A => some (.f0 .pushC)
  | 0x4B => some (.f0 .pushD)
  | 0x4C => some (.f0 .pushE)
  | 0x4D => some (.f0 .pushF)
  | 0x4E => some (.f0 .pushDa)
  | 0x4F => some (.f0 .pushDb)
  | 0x50 => some (.f0 .popA)
  | 0x51 => some (.f0 .popB)
  | 0x52 => some (.f0 .popC)
  | 0x53 => some (.f0 .popD)
  | 0x54 => some (.f0 .popE)
  | 0x55 => some (.f0 .popF)
  | 0x56 => some (.f0 .popDa)
  | 0x57 => some (.f0 .popDb)
  | 0x58 => some (.f1 .cmpAImm)
  | 0x59 => some (.f1 .cmpBImm)
  | 0x5A => some (.f1 .cmpCImm)
  | 0x5B => some (.f1 .cmpDImm)
  | 0x5C => some (.f1 .cmpEImm)
  | 0x5D => some (.f1 .cmpFImm)
  | 0x5E => some (.f3 .cmpDaImm)
  | 0x5F => some (.f3 .cmpDbImm)
  | 0x60 => some (.f2 .addReg)
  | 0x61 => some (.f2 .subReg)
  | 0x62 => some (.f2 .cmpReg)
  | 0x63 => some (.f2 .andReg)
  | 0x64 => some (.f2 .orReg)
  | 0x65 => some (.f2 .xorReg)
  | 0x66 => some (.f2 .movReg)
  | 0x67 => some (.f2 .swapReg)
  | 0x68 => some (.f0 .addDaDb)
  | 0x69 => some (.f0 .addDbDa)
  | 0x6A => some (.f0 .subDaDb)
  | 0x6B => some (.f0 .subDbDa)
  | 0x6C => some (.f0 .cmpDaDb)
  | 0x6D => some (.f0 .cmpDbDa)
  | 0x70 => some (.f0 .movDaDb)
  | 0x71 => some (.f0 .movDbDa)
  | 0x72 => some (.f0 .swapDaDb)
  | 0x73 => some (.f0 .movDaIdx)
  | 0x74 => some (.f0 .movDaIdy)
  | 0x75 => some (.f0 .movDbIdx)
  | 0x76 => some (.f0 .movDbIdy)
  | 0x77 => some (.f0 .movIdxDa)
  | 0x78 => some (.f0 .movIdyDa)
  | 0x79 => some (.f0 .movIdxDb)
  | 0x7A => some (.f0 .movIdyDb)
  | 0x7B => some (.f0 .movIdxIdy)
  | 0x7C => some (.f0 .movIdyIdx)
  | 0x7D => some (.f0 .swapIdxIdy)
  | 0x80 => some (.f3 .jmp)
  | 0x81 => some (.f3 .jz)
  | 0x82 => some (.f3 .jnz)
  | 0x83 => some (.f3 .jc)
  | 0x84 => some (.f3 .jnc)
  | 0x85 => some (.f3 .jn)
  | 0x86 => some (.f3 .jnn)
  | 0x88 => some (.f3 .call)
  | 0x89 => some (.f0 .ret)
  | 0x8A => some (.f1 .jr)
  | 0x8B => some (.f1 .jrz)
  | 0x8C => some (.f1 .jrnz)
  | 0x8D => some (.f1 .jrc)
  | 0x90 => some (.f3 .ldixImm)
  | 0x91 => some (.f3 .ldiyImm)
  | 0x92 => some (.f3 .ldixAbs)
  | 0x93 => some (.f3 .ldiyAbs)
  | 0x94 => some (.f0 .incIdx)
  | 0x95 => some (.f0 .incIdy)
  | 0x96 => some (.f0 .decIdx)
  | 0x97 => some (.f0 .decIdy)
  | 0x98 => some (.f1 .addIdxImm)
  | 0x99 => some (.f1 .addIdyImm)
  | 0xA0 => some (.f0 .ldaIdx)
  | 0xA1 => some (.f0 .ldaIdy)
  | 0xA2 => some (.f0 .staIdx)
  | 0xA3 => some (.f0 .staIdy)
  | 0xA4 => some (.f1 .ldaIdxDisp)
  | 0xA5 => some (.f1 .ldaIdyDisp)
  | 0xA6 => some (.f1 .staIdxDisp)
  | 0xA7 => some (.f1 .staIdyDisp)
  | 0xA8 => some (.f0 .ldaIdxInc)
  | 0xA9 => some (.f0 .ldaIdyInc)
  | 0xAA => some (.f0 .staIdxInc)
  | 0xAB => some (.f0 .staIdyInc)
  | 0xAC => some (.f0 .ldaIdxDec)
  | 0xAD => some (.f0 .ldaIdyDec)
  | 0xAE => some (.f0 .staIdxDec)
  | 0xAF => some (.f0 .staIdyDec)
  | _ => none

/-- The row of an opcode under OPCODE_MAP (00_scope.md R7): the spec's own map where none is substituted, else the spec's
row for the instruction the byte stands for. -/
def rowOf (map : Option OpcodeNumbering) (op : Byte) : Option OpcodeRow :=
  match map with
  | none => opcodeMap op
  | some l => (l.lookup op).bind opcodeMap

/-- The byte that OPCODE_MAP gives the instruction with an opcode of the spec's own map. -/
def byteOf (map : Option OpcodeNumbering) (op : Byte) : Option Byte :=
  match map with
  | none => some op
  | some l => (l.find? fun p => p.2 == op).map Prod.fst

/-- Why a string of octets holds no instruction. -/
inductive DecodeError where
  /-- There is no octet at all. -/
  | empty
  /-- The first octet is an unassigned opcode (30_encoding.md R78). -/
  | unknownOpcode (op : Byte)
  /-- The opcode is assigned and an operand octet is missing. -/
  | truncated (op : Byte)
deriving DecidableEq, Repr

/-- Read one instruction from the front of a string of octets, and the octets after it, under an OPCODE_MAP. The opcode
alone fixes the length (30_encoding.md R70, R81); a 16-bit operand is low octet first (R74). -/
def decodeBy (map : Option OpcodeNumbering) : List Byte → Except DecodeError (Instr × List Byte)
  | [] => .error .empty
  | op :: rest =>
    match rowOf map op with
    | none => .error (.unknownOpcode op)
    | some (.f0 i) => .ok (i, rest)
    | some (.f1 mk) =>
      match rest with
      | n :: rest => .ok (mk n, rest)
      | [] => .error (.truncated op)
    | some (.f2 mk) =>
      match rest with
      | rr :: rest => .ok (mk (pairDst rr) (pairSrc rr), rest)
      | [] => .error (.truncated op)
    | some (.f3 mk) =>
      match rest with
      | lo :: hi :: rest => .ok (mk (concat hi lo), rest)
      | _ => .error (.truncated op)

/-- `decodeBy` under the spec's own map (30_encoding.md R77). -/
def decode (octets : List Byte) : Except DecodeError (Instr × List Byte) := decodeBy none octets

/-- The octets of an instruction, in address order (30_encoding.md R71, R77). -/
def encode : Instr → List Byte
  | .nop => [0x00]
  | .halt => [0x01]
  | .sys n => [0x02, n]
  | .ldaImm n => [0x08, n]
  | .ldbImm n => [0x09, n]
  | .ldcImm n => [0x0A, n]
  | .lddImm n => [0x0B, n]
  | .ldeImm n => [0x0C, n]
  | .ldfImm n => [0x0D, n]
  | .lddaImm nn => [0x0E, lowByte nn, highByte nn]
  | .lddbImm nn => [0x0F, lowByte nn, highByte nn]
  | .ldaAbs a => [0x10, lowByte a, highByte a]
  | .ldbAbs a => [0x11, lowByte a, highByte a]
  | .ldcAbs a => [0x12, lowByte a, highByte a]
  | .lddAbs a => [0x13, lowByte a, highByte a]
  | .ldeAbs a => [0x14, lowByte a, highByte a]
  | .ldfAbs a => [0x15, lowByte a, highByte a]
  | .lddaAbs a => [0x16, lowByte a, highByte a]
  | .lddbAbs a => [0x17, lowByte a, highByte a]
  | .staAbs a => [0x18, lowByte a, highByte a]
  | .stbAbs a => [0x19, lowByte a, highByte a]
  | .stcAbs a => [0x1A, lowByte a, highByte a]
  | .stdAbs a => [0x1B, lowByte a, highByte a]
  | .steAbs a => [0x1C, lowByte a, highByte a]
  | .stfAbs a => [0x1D, lowByte a, highByte a]
  | .stdaAbs a => [0x1E, lowByte a, highByte a]
  | .stdbAbs a => [0x1F, lowByte a, highByte a]
  | .incA => [0x20]
  | .incB => [0x21]
  | .incC => [0x22]
  | .incD => [0x23]
  | .incE => [0x24]
  | .incF => [0x25]
  | .incDa => [0x26]
  | .incDb => [0x27]
  | .decA => [0x28]
  | .decB => [0x29]
  | .decC => [0x2A]
  | .decD => [0x2B]
  | .decE => [0x2C]
  | .decF => [0x2D]
  | .decDa => [0x2E]
  | .decDb => [0x2F]
  | .notA => [0x30]
  | .notB => [0x31]
  | .notC => [0x32]
  | .notD => [0x33]
  | .notE => [0x34]
  | .notF => [0x35]
  | .shlA => [0x38]
  | .shlB => [0x39]
  | .shlC => [0x3A]
  | .shlD => [0x3B]
  | .shlE => [0x3C]
  | .shlF => [0x3D]
  | .shrA => [0x40]
  | .shrB => [0x41]
  | .shrC => [0x42]
  | .shrD => [0x43]
  | .shrE => [0x44]
  | .shrF => [0x45]
  | .pushA => [0x48]
  | .pushB => [0x49]
  | .pushC => [0x4A]
  | .pushD => [0x4B]
  | .pushE => [0x4C]
  | .pushF => [0x4D]
  | .pushDa => [0x4E]
  | .pushDb => [0x4F]
  | .popA => [0x50]
  | .popB => [0x51]
  | .popC => [0x52]
  | .popD => [0x53]
  | .popE => [0x54]
  | .popF => [0x55]
  | .popDa => [0x56]
  | .popDb => [0x57]
  | .cmpAImm n => [0x58, n]
  | .cmpBImm n => [0x59, n]
  | .cmpCImm n => [0x5A, n]
  | .cmpDImm n => [0x5B, n]
  | .cmpEImm n => [0x5C, n]
  | .cmpFImm n => [0x5D, n]
  | .cmpDaImm nn => [0x5E, lowByte nn, highByte nn]
  | .cmpDbImm nn => [0x5F, lowByte nn, highByte nn]
  | .addReg dst src => [0x60, pairByte dst src]
  | .subReg dst src => [0x61, pairByte dst src]
  | .cmpReg dst src => [0x62, pairByte dst src]
  | .andReg dst src => [0x63, pairByte dst src]
  | .orReg dst src => [0x64, pairByte dst src]
  | .xorReg dst src => [0x65, pairByte dst src]
  | .movReg dst src => [0x66, pairByte dst src]
  | .swapReg dst src => [0x67, pairByte dst src]
  | .addDaDb => [0x68]
  | .addDbDa => [0x69]
  | .subDaDb => [0x6A]
  | .subDbDa => [0x6B]
  | .cmpDaDb => [0x6C]
  | .cmpDbDa => [0x6D]
  | .movDaDb => [0x70]
  | .movDbDa => [0x71]
  | .swapDaDb => [0x72]
  | .movDaIdx => [0x73]
  | .movDaIdy => [0x74]
  | .movDbIdx => [0x75]
  | .movDbIdy => [0x76]
  | .movIdxDa => [0x77]
  | .movIdyDa => [0x78]
  | .movIdxDb => [0x79]
  | .movIdyDb => [0x7A]
  | .movIdxIdy => [0x7B]
  | .movIdyIdx => [0x7C]
  | .swapIdxIdy => [0x7D]
  | .jmp a => [0x80, lowByte a, highByte a]
  | .jz a => [0x81, lowByte a, highByte a]
  | .jnz a => [0x82, lowByte a, highByte a]
  | .jc a => [0x83, lowByte a, highByte a]
  | .jnc a => [0x84, lowByte a, highByte a]
  | .jn a => [0x85, lowByte a, highByte a]
  | .jnn a => [0x86, lowByte a, highByte a]
  | .call a => [0x88, lowByte a, highByte a]
  | .ret => [0x89]
  | .jr d => [0x8A, d]
  | .jrz d => [0x8B, d]
  | .jrnz d => [0x8C, d]
  | .jrc d => [0x8D, d]
  | .ldixImm nn => [0x90, lowByte nn, highByte nn]
  | .ldiyImm nn => [0x91, lowByte nn, highByte nn]
  | .ldixAbs a => [0x92, lowByte a, highByte a]
  | .ldiyAbs a => [0x93, lowByte a, highByte a]
  | .incIdx => [0x94]
  | .incIdy => [0x95]
  | .decIdx => [0x96]
  | .decIdy => [0x97]
  | .addIdxImm n => [0x98, n]
  | .addIdyImm n => [0x99, n]
  | .ldaIdx => [0xA0]
  | .ldaIdy => [0xA1]
  | .staIdx => [0xA2]
  | .staIdy => [0xA3]
  | .ldaIdxDisp d => [0xA4, d]
  | .ldaIdyDisp d => [0xA5, d]
  | .staIdxDisp d => [0xA6, d]
  | .staIdyDisp d => [0xA7, d]
  | .ldaIdxInc => [0xA8]
  | .ldaIdyInc => [0xA9]
  | .staIdxInc => [0xAA]
  | .staIdyInc => [0xAB]
  | .ldaIdxDec => [0xAC]
  | .ldaIdyDec => [0xAD]
  | .staIdxDec => [0xAE]
  | .staIdyDec => [0xAF]

/-- The octets of an instruction under an OPCODE_MAP (00_scope.md R7); `none` where the numbering has no byte for it. -/
def encodeBy (map : Option OpcodeNumbering) (i : Instr) : Option (List Byte) :=
  match encode i with
  | [] => none
  | op :: operands => (byteOf map op).map fun b => b :: operands

/-- Octet k of an instruction whose bits are w, bit 0 the least significant bit of the first octet. -/
def tableOctet (w k : Nat) : Byte := BitVec.ofNat 8 (w / 256 ^ k)

/-- The three octets of the table word w: its low nbits bits, and zeros above them (the longest FS8 instruction has
three octets, 30_encoding.md R70). -/
def tableOctets (nbits w : Nat) : List Byte :=
  [tableOctet (w % 2 ^ nbits) 0, tableOctet (w % 2 ^ nbits) 1, tableOctet (w % 2 ^ nbits) 2]

/-- The instruction the decoder reads from the table word w of nbits bits. -/
def decodeTableWord (nbits w : Nat) : Option Instr :=
  match decode (tableOctets nbits w) with
  | .ok (i, _) => some i
  | .error _ => none

end Sys2Proof
end

