-- ==== Sys2Proof/Machine/Memory.lean ====
section
/-!
DEFINITION. The byte array of 20_memory.md R50: a list of (address, byte) pairs in one canonical form, addresses
strictly rising, over what an address with no pair reads as. These are the unchecked operations on it; the range checks
of R52 and R53 are in Machine/Ops.lean.
-/

namespace Sys2Proof.Machine

/-- The byte array. -/
structure Memory where
  /-- What every address with no entry holds: a byte that all of them were set to (`Clear()` sets 0x00, 20_memory.md
  R67), or, for `none`, what the launch memory has there (10_state.md R39). -/
  fill : Option Byte
  /-- The entries, addresses rising. -/
  cells : List Host.Cell
deriving DecidableEq, Repr

/-- The memory no byte of which was written: the launch memory alone. -/
def Memory.launch : Memory := { fill := none, cells := [] }

/-- The memory every byte of which is `v`. -/
def Memory.filled (v : Byte) : Memory := { fill := some v, cells := [] }

/-- What an address with no entry reads as. A byte of the launch memory is a FREE VALUE: an arbitrary input, never taken
as zero (10_state.md R39, log entry 4). -/
def Memory.unlisted (m : Memory) (a : Nat) : Byte := m.fill.getD (Config.launchByte a)

/-- The entry at an address. -/
def Memory.find : List Host.Cell → Nat → Option Byte
  | [], _ => none
  | c :: m, a => if c.1 = a then some c.2 else Memory.find m a

/-- The byte at an address (20_memory.md R52, after its range check): the last value written there, or the launch
memory's (R63). -/
def Memory.read (m : Memory) (a : Nat) : Byte := (Memory.find m.cells a).getD (Memory.unlisted m a)

/-- Remove an address's entry. -/
def Memory.erase (m : List Host.Cell) (a : Nat) : List Host.Cell := m.filter (fun c => c.1 != a)

/-- Put an entry at its place among the rising addresses. -/
def Memory.insert : List Host.Cell → Nat → Byte → List Host.Cell
  | [], a, v => [(a, v)]
  | c :: m, a, v =>
    if a < c.1 then (a, v) :: c :: m
    else if a = c.1 then (a, v) :: m
    else c :: Memory.insert m a v

/-- Store a byte (20_memory.md R53, after its range check): a write changes only the byte it names (R60). A byte that
every unlisted address is known to hold takes no entry. -/
def Memory.write (m : Memory) (a : Nat) (v : Byte) : Memory :=
  { m with cells := if m.fill = some v then Memory.erase m.cells a else Memory.insert m.cells a v }

/-- Store bytes at rising addresses (20_memory.md R66). -/
def Memory.writeBytes : Memory → Nat → List Byte → Memory
  | m, _, [] => m
  | m, a, v :: vs => Memory.writeBytes (Memory.write m a v) (a + 1) vs

/-- The canonical form of a list of entries: addresses strictly rising, and no entry equal to the byte `fill`. -/
def Memory.canonical (fill : Option Byte) : List Host.Cell → Bool
  | [] => true
  | c :: m => fill != some c.2 && m.all (fun d => decide (c.1 < d.1)) && Memory.canonical fill m

/-- The canonical form. -/
def Memory.wf (m : Memory) : Bool := Memory.canonical m.fill m.cells

/-- Every entry lies in `[0, size)`, the addresses that exist (20_memory.md R50). -/
def Memory.inRange (size : Nat) (m : Memory) : Bool := m.cells.all (fun c => decide (c.1 < size))

/-- Write the entries of a list that lie in `[0, size)`; of two for one address the first holds. -/
def Memory.writeCells (size : Nat) (m : Memory) : List Host.Cell → Memory
  | [] => m
  | c :: cs =>
    let m := Memory.writeCells size m cs
    if c.1 < size then Memory.write m c.1 c.2 else m

/-- The array of `size` bytes with the contents given, in canonical form: every address below `size` reads as it did
(log entry 17). -/
def Memory.normal (size : Nat) (m : Memory) : Memory := Memory.writeCells size { m with cells := [] } m.cells

end Sys2Proof.Machine
end

