-- ==== Sys2Proof/Machine/State.lean ====
section
/-!
DEFINITION. The state of the FS8 core, as plain data: everything 10_state.md R20 to R36 and 60_exceptions.md R219 give
it, the parameters of 00_scope.md R7, and one field of the model's own (`draws`).
-/

namespace Sys2Proof.Machine

/-- The fault kinds an instruction can raise, with what the fault record holds of each (10_state.md R35,
60_exceptions.md R200). They are recorded in `State.fault` by `takeFault` (R204), which answers a NEXT state: no step
answers `Host.Outcome.fault` (log entry 7). Safe: the faulted state is the spec's own, with its effects precise. -/
inductive Fault where
  /-- Cause code 1: an access outside `[0, MEM_SIZE)`, raised by any fetch and by loads, stores, pushes, pops, CALL,
  RET and indexed accesses (R201); the address that failed the check, 0..0x10000. Safe. -/
  | addressOutOfRange (addr : Nat)
  /-- Cause code 2: the fetch of an unassigned opcode (R202); the opcode. Safe. -/
  | unknownInstruction (opcode : Byte)
  /-- Cause code 3: a format-F2 instruction with a pair-byte field of 6 to 15 (R203); the field. Safe. -/
  | invalidRegisterIdentifier (code : RegCode)
deriving DecidableEq, Repr

/-- The four flags of the status register (10_state.md R26). -/
structure Flags where
  /-- Zero (R27). -/
  z : Bool
  /-- Carry (R28). -/
  c : Bool
  /-- Overflow (R30). -/
  o : Bool
  /-- Negative (R29). -/
  n : Bool
deriving DecidableEq, Repr

/-- The clock modes, with the target rate in Hz where the mode has one (60_exceptions.md R219). No instruction reads
the mode. -/
inductive ClockMode where
  | stepped
  | fast
  | limited (rateHz : Nat)
  | realTime (rateHz : Nat)
deriving DecidableEq, Repr

/-! ### The parameter SYS_HANDLER -/

/-- What a SYS_HANDLER may read and write (40_control.md R94): the registers, the flags and memory. The run flag and the
fault record are not among them: no instruction but HALT clears the one (60_exceptions.md R218), and a handler writes
the other by raising (R204). -/
structure ArchState where
  a : Byte
  b : Byte
  c : Byte
  d : Byte
  e : Byte
  f : Byte
  da : Word
  db : Word
  idx : Word
  idy : Word
  pc : Word
  sp : Word
  flags : Flags
  mem : Memory
deriving DecidableEq, Repr

/-- How a SYS_HANDLER ends a `SYS n` (40_control.md R94). -/
inductive SysReply where
  /-- It completes, with the state it leaves. -/
  | completes (after : ArchState)
  /-- It raises a fault ("then per handler"), with the state it leaves. -/
  | raises (k : Fault) (after : ArchState)
  /-- It gives this call no meaning. -/
  | refuses
deriving DecidableEq, Repr

/-- A SYS_HANDLER as plain data (log entry 8). -/
structure SysHandler where
  /-- The calls it serves: a service number and the state it is called in, with the reply. It refuses any other. -/
  calls : List ((Byte × ArchState) × SysReply)
  /-- It documents that it may leave pc elsewhere than at the address after the SYS (40_control.md R94). -/
  writesPc : Bool
deriving DecidableEq, Repr

/-- The effect `SYS_HANDLER(n, state)` (40_control.md R94). -/
def SysHandler.reply (h : SysHandler) (n : Byte) (u : ArchState) : SysReply :=
  (h.calls.lookup (n, u)).getD .refuses

/-! ### The machine -/

/-- The machine. Storage is disjoint: no field aliases another (10_state.md R21). -/
structure State where
  /-- Register A (10_state.md R20). -/
  a : Byte
  /-- Register B (R20). -/
  b : Byte
  /-- Register C (R20). -/
  c : Byte
  /-- Register D (R20). -/
  d : Byte
  /-- Register E (R20). -/
  e : Byte
  /-- Register F, a general register (R20). -/
  f : Byte
  /-- Register pair DA (R22). -/
  da : Word
  /-- Register pair DB (R22). -/
  db : Word
  /-- Index pointer IDX (R23). -/
  idx : Word
  /-- Index pointer IDY (R23). -/
  idy : Word
  /-- The program counter (R24). -/
  pc : Word
  /-- The stack pointer: the address of the next free byte (R25). -/
  sp : Word
  /-- The status register's flags (R26). -/
  flags : Flags
  /-- The run flag: Running or Halted (R34). -/
  running : Bool
  /-- The fault record (R35). -/
  fault : Option Fault
  /-- The host counter of instructions executed (R36, 60_exceptions.md R226). -/
  instructionsExecuted : Nat
  /-- The host counter of cycles executed (R36, 60_exceptions.md R226). -/
  cyclesExecuted : Nat
  /-- The clock mode; it has no value until Start sets it (60_exceptions.md R219, 70_reset_and_hazards.md R232). -/
  mode : Option ClockMode
  /-- The byte array (20_memory.md R50), in the canonical form of Machine/Memory.lean. -/
  mem : Memory
  /-- The parameters of 00_scope.md R7; nothing changes them. -/
  config : Config
  /-- The parameter SYS_HANDLER of 00_scope.md R7; `none` is its default, to refuse. Nothing changes it. -/
  sysHandler : Option SysHandler
  /-- The MODEL's own field: how many free values have been drawn (log entry 5). -/
  draws : Nat
deriving DecidableEq, Repr

/-- Why a step has no meaning. -/
inductive Refusal where
  /-- An instruction the model gives no meaning yet; raised by arms of `exec` alone. Safe. -/
  | notModelled (mnemonic : String)
  /-- `SysUnmodelled(n)` of 40_control.md R94, raised by SYS when no SYS_HANDLER is supplied or the one supplied gives
  this call no meaning; the state at the refusal, whose pc is the address after the SYS. Safe: the spec itself refuses
  the step (log entry 8). -/
  | sysUnmodelled (n : Byte) (refused : State)
deriving DecidableEq, Repr

/-- The machine right after Reset (10_state.md R38, 70_reset_and_hazards.md R230), with the standard parameters, no
SYS_HANDLER, and memory as launched: no byte of it is known (R39, log entry 4). PC is BOOT_ADDR, for which the spec gives no value (log entry 1); SP is MEM_SIZE - 1.
-/
def State.reset : State where
  a := 0x00#8
  b := 0x00#8
  c := 0x00#8
  d := 0x00#8
  e := 0x00#8
  f := 0x00#8
  da := 0x0000#16
  db := 0x0000#16
  idx := 0x0000#16
  idy := 0x0000#16
  pc := Config.standard.bootAddr
  sp := BitVec.ofNat 16 (Config.standard.memSize - 1)
  flags := { z := false, c := false, o := false, n := false }
  running := false
  fault := none
  instructionsExecuted := 0
  cyclesExecuted := 0
  mode := none
  mem := Memory.launch
  config := Config.standard
  sysHandler := none
  draws := 0

end Sys2Proof.Machine
end

