-- ==== Sys2Proof/Machine/Ops.lean ====
section
/-!
DEFINITION. The named operations over registers and memory: register access (00_scope.md R10), the memory primitives
(20_memory.md R52 to R55), the stack primitives (44_stores_stack.md R164 to R167), what completing an instruction adds
to the counters (40_control.md R90), and TAKING A FAULT (60_exceptions.md R204). FS8 has no return from a fault (R207):
only the host's Reset leaves the faulted state.
-/

namespace Sys2Proof.Machine

/-! ### Registers -/

/-- `R8[r]` (00_scope.md R10). -/
def State.get8 (r : Reg8) (s : State) : Byte :=
  match r with
  | .a => s.a
  | .b => s.b
  | .c => s.c
  | .d => s.d
  | .e => s.e
  | .f => s.f

/-- `R8[r] <- v`: no other storage changes (00_scope.md R10, 10_state.md R21). -/
def State.set8 (r : Reg8) (v : Byte) (s : State) : State :=
  { s with
    a := if r = .a then v else s.a
    b := if r = .b then v else s.b
    c := if r = .c then v else s.c
    d := if r = .d then v else s.d
    e := if r = .e then v else s.e
    f := if r = .f then v else s.f }

/-- `R16[p]` (00_scope.md R10). -/
def State.get16 (p : Reg16) (s : State) : Word :=
  match p with
  | .da => s.da
  | .db => s.db
  | .idx => s.idx
  | .idy => s.idy
  | .pc => s.pc
  | .sp => s.sp

/-- `R16[p] <- v`: no other storage changes (00_scope.md R10, 10_state.md R21). -/
def State.set16 (p : Reg16) (v : Word) (s : State) : State :=
  { s with
    da := if p = .da then v else s.da
    db := if p = .db then v else s.db
    idx := if p = .idx then v else s.idx
    idy := if p = .idy then v else s.idy
    pc := if p = .pc then v else s.pc
    sp := if p = .sp then v else s.sp }

/-! ### The end of an instruction -/

/-- What part of an instruction does: it goes on with a value, or it raises a fault in the state it has reached. -/
inductive Effect (α : Type) where
  /-- It goes on. -/
  | done (v : α) (s : State)
  /-- `raise K(info)` (00_scope.md R14): nothing ordered after it happens (60_exceptions.md R204). -/
  | raise (k : Fault) (s : State)
deriving DecidableEq, Repr

/-- One part after another; the second runs only where the first raised nothing (60_exceptions.md R206). -/
def Effect.andThen {α β : Type} (r : Effect α) (k : α → State → Effect β) : Effect β :=
  match r with
  | .done v s => k v s
  | .raise f s => .raise f s

/-- TAKING A FAULT (60_exceptions.md R204): the record holds the fault and its value, the core stops, and everything
done before the fault stays, pc included. -/
def takeFault (k : Fault) (s : State) : State :=
  { s with fault := some k, running := false }

/-- A step that completes an instruction adds 1 to both host counters (40_control.md R90, 60_exceptions.md R226). -/
def countInstruction (s : State) : State :=
  { s with instructionsExecuted := s.instructionsExecuted + 1, cyclesExecuted := s.cyclesExecuted + 1 }

/-- The end of an instruction's execute phase: completed and counted, or stopped in the faulted state, which adds
nothing to the counters (60_exceptions.md R204, R226). -/
def finish : Effect Unit → Host.Outcome State Fault Refusal
  | .done _ s => .next (countInstruction s)
  | .raise k s => .next (takeFault k s)

/-! ### Memory -/

/-- `MemRead(a, 1)` (20_memory.md R52). -/
def readByte (a : Nat) (s : State) : Effect Byte :=
  if a < s.config.memSize then .done (Memory.read s.mem a) s else .raise (.addressOutOfRange a) s

/-- `MemWrite(a, 1, v)` (20_memory.md R53). -/
def writeByte (a : Nat) (v : Byte) (s : State) : Effect Unit :=
  if a < s.config.memSize then .done () { s with mem := Memory.write s.mem a v }
  else .raise (.addressOutOfRange a) s

/-- `MemRead(a, 2)` (20_memory.md R54): the low byte first; a + 1 is not wrapped. -/
def readWord (a : Nat) (s : State) : Effect Word :=
  (readByte a s).andThen fun lo s1 =>
    (readByte (a + 1) s1).andThen fun hi s2 =>
      .done (concat hi lo) s2

/-- The state of a word write whose second byte faulted: memory as `before` it, or as `after` its first byte, as a
free value has it (20_memory.md R55, log entry 6). The draw is counted. -/
def partialWord (before after : State) : State :=
  { before with
    mem := if Config.partialWordWritten before.draws then after.mem else before.mem
    draws := before.draws + 1 }

/-- `MemWrite(a, 2, v)` (20_memory.md R55): the low byte at a, the high byte at a + 1, which is not wrapped. -/
def writeWord (a : Nat) (v : Word) (s : State) : Effect Unit :=
  (writeByte a (lowByte v) s).andThen fun _ s1 =>
    match writeByte (a + 1) (highByte v) s1 with
    | .done _ s2 => .done () s2
    | .raise k _ => .raise k (partialWord s s1)

/-! ### The stack -/

/-- `Push8(v)` (44_stores_stack.md R164): write at SP, then decrement it modulo 2^16. -/
def push8 (v : Byte) (s : State) : Effect Unit :=
  (writeByte s.sp.toNat v s).andThen fun _ s1 =>
    .done () (s1.set16 .sp (s1.sp - 1#16))

/-- `Pop8()` (44_stores_stack.md R165): increment SP modulo 2^16, then read there; SP keeps the increment when the read
faults (R169). -/
def pop8 (s : State) : Effect Byte :=
  let s1 := s.set16 .sp (s.sp + 1#16)
  readByte s1.sp.toNat s1

/-- `Push16(v)` (44_stores_stack.md R166): the high octet, then the low octet. -/
def push16 (v : Word) (s : State) : Effect Unit :=
  (push8 (highByte v) s).andThen fun _ s1 => push8 (lowByte v) s1

/-- `Pop16()` (44_stores_stack.md R167): the low octet, then the high octet. -/
def pop16 (s : State) : Effect Word :=
  (pop8 s).andThen fun lo s1 =>
    (pop8 s1).andThen fun hi s2 =>
      .done (concat hi lo) s2

end Sys2Proof.Machine
end

