-- ==== Sys2Proof/Machine/Flags.lean ====
section
/-!
DEFINITION. The flag computations (10_state.md R27 to R33, R37; 42_alu.md R110) and the ALU primitives
(42_alu.md R111 to R118). Results are computed on integers and narrowed at the end, as the rules write them.
-/

namespace Sys2Proof.Machine

/-- `SetZ(v, w)` (42_alu.md R110): Zero from all w bits, no other flag. -/
def setZ {w : Nat} (v : BitVec w) (s : State) : State :=
  { s with flags := { s.flags with z := v == 0#w } }

/-- `FlagsArith(raw, w, carry)` (42_alu.md R110): Zero and Negative from raw reduced to the full width, Carry as given,
Overflow a draw (10_state.md R30, log entry 5). -/
def flagsArith (raw : Int) (w : Nat) (carry : Bool) (s : State) : State :=
  { s with
    flags :=
      { z := BitVec.ofInt w raw == 0#w
        c := carry
        o := Config.overflowDraw s.draws
        n := (BitVec.ofInt w raw).msb }
    draws := s.draws + 1 }

/-- `mask_w`, the largest unsigned value of width w (00_scope.md R15). -/
def widthMask (w : Nat) : Nat := 2 ^ w - 1

/-- `add(d, s, w)` (42_alu.md R111): the value and the state with its flags. -/
def aluAdd {w : Nat} (d r : BitVec w) (s : State) : BitVec w × State :=
  (BitVec.ofInt w (d.toNat + r.toNat), flagsArith (d.toNat + r.toNat) w (decide (d.toNat + r.toNat > widthMask w)) s)

/-- `subtract(d, s, w)` (42_alu.md R112): Carry is the borrow. -/
def aluSub {w : Nat} (d r : BitVec w) (s : State) : BitVec w × State :=
  (BitVec.ofInt w (d.toNat - r.toNat), flagsArith (d.toNat - r.toNat) w (decide (d.toNat < r.toNat)) s)

/-- The flags of AND, OR and XOR (42_alu.md R113): from the result, with Carry cleared. -/
def aluLogic {w : Nat} (res : BitVec w) (s : State) : BitVec w × State :=
  (res, flagsArith res.toNat w false s)

/-- `not(d, w)` (42_alu.md R114): complement within the width; Carry is unchanged. -/
def aluNot {w : Nat} (d : BitVec w) (s : State) : BitVec w × State :=
  (d ^^^ BitVec.ofNat w (widthMask w), flagsArith (d ^^^ BitVec.ofNat w (widthMask w)).toNat w s.flags.c s)

/-- `shift_left(d)` (42_alu.md R115), 8 bits only: Carry is the outgoing bit 7. -/
def aluShl (d : Byte) (s : State) : Byte × State :=
  (BitVec.ofNat 8 (d.toNat * 2), flagsArith (BitVec.ofNat 8 (d.toNat * 2)).toNat 8 (d.getLsbD 7) s)

/-- `shift_right(d)` (42_alu.md R116), 8 bits only, zero fill: Carry is the outgoing bit 0. -/
def aluShr (d : Byte) (s : State) : Byte × State :=
  (d >>> 1, flagsArith (d >>> 1).toNat 8 (d.getLsbD 0) s)

/-- `increment(d, w)` is add of 1 (42_alu.md R117). -/
def aluIncrement {w : Nat} (d : BitVec w) (s : State) : BitVec w × State := aluAdd d (BitVec.ofNat w 1) s

/-- `decrement(d, w)` is subtract of 1 (42_alu.md R117). -/
def aluDecrement {w : Nat} (d : BitVec w) (s : State) : BitVec w × State := aluSub d (BitVec.ofNat w 1) s

/-- `compare(a, b, w)` is subtract with its result discarded (42_alu.md R118). -/
def aluCompare {w : Nat} (a b : BitVec w) (s : State) : State := (aluSub a b s).2

/-- A load-class write of an 8-bit register: Zero from the value, Carry, Negative and Overflow unchanged
(10_state.md R37). -/
def State.put8 (r : Reg8) (v : Byte) (s : State) : State := setZ v (s.set8 r v)

/-- A load-class write of a 16-bit register: DA and DB set Zero from all 16 bits; IDX, IDY, PC and SP write no flag
(10_state.md R37, 60_exceptions.md R227). -/
def State.put16 (p : Reg16) (v : Word) (s : State) : State :=
  match p with
  | .da => setZ v (s.set16 .da v)
  | .db => setZ v (s.set16 .db v)
  | .idx => s.set16 .idx v
  | .idy => s.set16 .idy v
  | .pc => s.set16 .pc v
  | .sp => s.set16 .sp v

/-- Store an ALU result in an 8-bit register, after the flags are written. -/
def State.result8 (r : Reg8) (x : Byte × State) : State := x.2.set8 r x.1

/-- Store an ALU result in a 16-bit register, after the flags are written. -/
def State.result16 (p : Reg16) (x : Word × State) : State := x.2.set16 p x.1

/-- The packed status register S (10_state.md R33): S[0] = Z, S[1] = C, S[2] = O, S[3] = N, S[7:4] = 0. The host alone
sees it. -/
def statusByte (g : Flags) : Byte :=
  BitVec.ofNat 8 (g.z.toNat + 2 * g.c.toNat + 4 * g.o.toNat + 8 * g.n.toNat)

end Sys2Proof.Machine
end

