-- ==== Sys2Proof/Machine/Operands.lean ====
section
/-!
DEFINITION. The operand forms: the extensions (00_scope.md R9), the register-pair byte (30_encoding.md R73, R79), the
effective addresses of the indexed modes (45_indexed.md R175) and the relative target (43_jumps_calls.md R149).
-/

namespace Sys2Proof.Machine

/-- `sext_16(v8)`: v8 read as a two's-complement signed byte and widened (00_scope.md R9). -/
def sext16 (v : Byte) : Word := v.signExtend 16

/-- `zext_16(v8)` (00_scope.md R9). -/
def zext16 (v : Byte) : Word := v.setWidth 16

/-- The register a field of the register-pair byte names: 0-5 are A-F, and 6 to 15 are no register
(30_encoding.md R73). -/
def reg8OfCode (code : RegCode) : Option Reg8 :=
  match code.toNat with
  | 0 => some .a
  | 1 => some .b
  | 2 => some .c
  | 3 => some .d
  | 4 => some .e
  | 5 => some .f
  | _ => none

/-- Check both fields of a register-pair byte, the destination first, before the instruction has any effect
(30_encoding.md R79). -/
def withPair (dst src : RegCode) (k : Reg8 → Reg8 → State → Effect Unit) (s : State) : Effect Unit :=
  match reg8OfCode dst with
  | none => .raise (.invalidRegisterIdentifier dst) s
  | some x =>
    match reg8OfCode src with
    | none => .raise (.invalidRegisterIdentifier src) s
    | some y => k x y s

/-- The effective address of `(p)`, `(p)+` and `(p)-`: the pointer before the instruction (45_indexed.md R175). -/
def pointerAddr (p : Reg16) (s : State) : Nat := (s.get16 p).toNat

/-- The effective address of `(p+d)`: (P + sext_16(d)) mod 2^16 (45_indexed.md R175). -/
def displacedAddr (p : Reg16) (d : Byte) (s : State) : Nat := (s.get16 p + sext16 d).toNat

/-- The target of a relative jump: (next + sext_16(d)) mod 2^16, where next is pc in the execute phase
(43_jumps_calls.md R149). -/
def relativeTarget (d : Byte) (s : State) : Word := s.pc + sext16 d

end Sys2Proof.Machine
end

