-- ==== Sys2Proof/Machine/Alu.lean ====
section
/-!
DEFINITION. ALU instructions: arithmetic, compare, logic and shifts (42_alu.md R120 to R137), each over a primitive of
Machine/Flags.lean. Operands are read before the result is written (42_alu.md R119, 70_reset_and_hazards.md R237).
-/

namespace Sys2Proof.Machine

/-- ADD on two 8-bit registers (42_alu.md R120). -/
def addReg8 (dst src : Reg8) (s : State) : Effect Unit :=
  .done () (State.result8 dst (aluAdd (s.get8 dst) (s.get8 src) s))

/-- SUB on two 8-bit registers (42_alu.md R121). -/
def subReg8 (dst src : Reg8) (s : State) : Effect Unit :=
  .done () (State.result8 dst (aluSub (s.get8 dst) (s.get8 src) s))

/-- CMP on two 8-bit registers (42_alu.md R122). -/
def cmpReg8 (x y : Reg8) (s : State) : Effect Unit := .done () (aluCompare (s.get8 x) (s.get8 y) s)

/-- AND on two 8-bit registers (42_alu.md R130). -/
def andReg8 (dst src : Reg8) (s : State) : Effect Unit :=
  .done () (State.result8 dst (aluLogic (s.get8 dst &&& s.get8 src) s))

/-- OR on two 8-bit registers (42_alu.md R131). -/
def orReg8 (dst src : Reg8) (s : State) : Effect Unit :=
  .done () (State.result8 dst (aluLogic (s.get8 dst ||| s.get8 src) s))

/-- XOR on two 8-bit registers (42_alu.md R132). -/
def xorReg8 (dst src : Reg8) (s : State) : Effect Unit :=
  .done () (State.result8 dst (aluLogic (s.get8 dst ^^^ s.get8 src) s))

/-- INC r (42_alu.md R123). -/
def incReg8 (r : Reg8) (s : State) : Effect Unit := .done () (State.result8 r (aluIncrement (s.get8 r) s))

/-- DEC r (42_alu.md R124). -/
def decReg8 (r : Reg8) (s : State) : Effect Unit := .done () (State.result8 r (aluDecrement (s.get8 r) s))

/-- NOT r (42_alu.md R133). -/
def notReg8 (r : Reg8) (s : State) : Effect Unit := .done () (State.result8 r (aluNot (s.get8 r) s))

/-- SHL r (42_alu.md R134). -/
def shlReg8 (r : Reg8) (s : State) : Effect Unit := .done () (State.result8 r (aluShl (s.get8 r) s))

/-- SHR r (42_alu.md R135). -/
def shrReg8 (r : Reg8) (s : State) : Effect Unit := .done () (State.result8 r (aluShr (s.get8 r) s))

/-- CMP r,#n (42_alu.md R136). -/
def cmpImm8 (r : Reg8) (n : Byte) (s : State) : Effect Unit := .done () (aluCompare (s.get8 r) n s)

/-- ADD between DA and DB (42_alu.md R125). -/
def addReg16 (dst src : Reg16) (s : State) : Effect Unit :=
  .done () (State.result16 dst (aluAdd (s.get16 dst) (s.get16 src) s))

/-- SUB between DA and DB (42_alu.md R126). -/
def subReg16 (dst src : Reg16) (s : State) : Effect Unit :=
  .done () (State.result16 dst (aluSub (s.get16 dst) (s.get16 src) s))

/-- CMP between DA and DB (42_alu.md R127). -/
def cmpReg16 (x y : Reg16) (s : State) : Effect Unit := .done () (aluCompare (s.get16 x) (s.get16 y) s)

/-- INC q (42_alu.md R128). -/
def incReg16 (q : Reg16) (s : State) : Effect Unit := .done () (State.result16 q (aluIncrement (s.get16 q) s))

/-- DEC q (42_alu.md R129). -/
def decReg16 (q : Reg16) (s : State) : Effect Unit := .done () (State.result16 q (aluDecrement (s.get16 q) s))

/-- CMP q,#nn (42_alu.md R137). -/
def cmpImm16 (q : Reg16) (nn : Word) (s : State) : Effect Unit := .done () (aluCompare (s.get16 q) nn s)

/-- R123: `INC A`. -/
def execIncA (s : State) : Host.Outcome State Fault Refusal :=
  finish (incReg8 .a s)

/-- R123: `INC B`. -/
def execIncB (s : State) : Host.Outcome State Fault Refusal :=
  finish (incReg8 .b s)

/-- R123: `INC C`. -/
def execIncC (s : State) : Host.Outcome State Fault Refusal :=
  finish (incReg8 .c s)

/-- R123: `INC D`. -/
def execIncD (s : State) : Host.Outcome State Fault Refusal :=
  finish (incReg8 .d s)

/-- R123: `INC E`. -/
def execIncE (s : State) : Host.Outcome State Fault Refusal :=
  finish (incReg8 .e s)

/-- R123: `INC F`. -/
def execIncF (s : State) : Host.Outcome State Fault Refusal :=
  finish (incReg8 .f s)

/-- R128: `INC DA`. -/
def execIncDa (s : State) : Host.Outcome State Fault Refusal :=
  finish (incReg16 .da s)

/-- R128: `INC DB`. -/
def execIncDb (s : State) : Host.Outcome State Fault Refusal :=
  finish (incReg16 .db s)

/-- R124: `DEC A`. -/
def execDecA (s : State) : Host.Outcome State Fault Refusal :=
  finish (decReg8 .a s)

/-- R124: `DEC B`. -/
def execDecB (s : State) : Host.Outcome State Fault Refusal :=
  finish (decReg8 .b s)

/-- R124: `DEC C`. -/
def execDecC (s : State) : Host.Outcome State Fault Refusal :=
  finish (decReg8 .c s)

/-- R124: `DEC D`. -/
def execDecD (s : State) : Host.Outcome State Fault Refusal :=
  finish (decReg8 .d s)

/-- R124: `DEC E`. -/
def execDecE (s : State) : Host.Outcome State Fault Refusal :=
  finish (decReg8 .e s)

/-- R124: `DEC F`. -/
def execDecF (s : State) : Host.Outcome State Fault Refusal :=
  finish (decReg8 .f s)

/-- R129: `DEC DA`. -/
def execDecDa (s : State) : Host.Outcome State Fault Refusal :=
  finish (decReg16 .da s)

/-- R129: `DEC DB`. -/
def execDecDb (s : State) : Host.Outcome State Fault Refusal :=
  finish (decReg16 .db s)

/-- R133: `NOT A`. -/
def execNotA (s : State) : Host.Outcome State Fault Refusal :=
  finish (notReg8 .a s)

/-- R133: `NOT B`. -/
def execNotB (s : State) : Host.Outcome State Fault Refusal :=
  finish (notReg8 .b s)

/-- R133: `NOT C`. -/
def execNotC (s : State) : Host.Outcome State Fault Refusal :=
  finish (notReg8 .c s)

/-- R133: `NOT D`. -/
def execNotD (s : State) : Host.Outcome State Fault Refusal :=
  finish (notReg8 .d s)

/-- R133: `NOT E`. -/
def execNotE (s : State) : Host.Outcome State Fault Refusal :=
  finish (notReg8 .e s)

/-- R133: `NOT F`. -/
def execNotF (s : State) : Host.Outcome State Fault Refusal :=
  finish (notReg8 .f s)

/-- R134: `SHL A`. -/
def execShlA (s : State) : Host.Outcome State Fault Refusal :=
  finish (shlReg8 .a s)

/-- R134: `SHL B`. -/
def execShlB (s : State) : Host.Outcome State Fault Refusal :=
  finish (shlReg8 .b s)

/-- R134: `SHL C`. -/
def execShlC (s : State) : Host.Outcome State Fault Refusal :=
  finish (shlReg8 .c s)

/-- R134: `SHL D`. -/
def execShlD (s : State) : Host.Outcome State Fault Refusal :=
  finish (shlReg8 .d s)

/-- R134: `SHL E`. -/
def execShlE (s : State) : Host.Outcome State Fault Refusal :=
  finish (shlReg8 .e s)

/-- R134: `SHL F`. -/
def execShlF (s : State) : Host.Outcome State Fault Refusal :=
  finish (shlReg8 .f s)

/-- R135: `SHR A`. -/
def execShrA (s : State) : Host.Outcome State Fault Refusal :=
  finish (shrReg8 .a s)

/-- R135: `SHR B`. -/
def execShrB (s : State) : Host.Outcome State Fault Refusal :=
  finish (shrReg8 .b s)

/-- R135: `SHR C`. -/
def execShrC (s : State) : Host.Outcome State Fault Refusal :=
  finish (shrReg8 .c s)

/-- R135: `SHR D`. -/
def execShrD (s : State) : Host.Outcome State Fault Refusal :=
  finish (shrReg8 .d s)

/-- R135: `SHR E`. -/
def execShrE (s : State) : Host.Outcome State Fault Refusal :=
  finish (shrReg8 .e s)

/-- R135: `SHR F`. -/
def execShrF (s : State) : Host.Outcome State Fault Refusal :=
  finish (shrReg8 .f s)

/-- R136: `CMP A,#n`. -/
def execCmpAImm (n : Byte) (s : State) : Host.Outcome State Fault Refusal :=
  finish (cmpImm8 .a n s)

/-- R136: `CMP B,#n`. -/
def execCmpBImm (n : Byte) (s : State) : Host.Outcome State Fault Refusal :=
  finish (cmpImm8 .b n s)

/-- R136: `CMP C,#n`. -/
def execCmpCImm (n : Byte) (s : State) : Host.Outcome State Fault Refusal :=
  finish (cmpImm8 .c n s)

/-- R136: `CMP D,#n`. -/
def execCmpDImm (n : Byte) (s : State) : Host.Outcome State Fault Refusal :=
  finish (cmpImm8 .d n s)

/-- R136: `CMP E,#n`. -/
def execCmpEImm (n : Byte) (s : State) : Host.Outcome State Fault Refusal :=
  finish (cmpImm8 .e n s)

/-- R136: `CMP F,#n`. -/
def execCmpFImm (n : Byte) (s : State) : Host.Outcome State Fault Refusal :=
  finish (cmpImm8 .f n s)

/-- R137: `CMP DA,#nn`. -/
def execCmpDaImm (nn : Word) (s : State) : Host.Outcome State Fault Refusal :=
  finish (cmpImm16 .da nn s)

/-- R137: `CMP DB,#nn`. -/
def execCmpDbImm (nn : Word) (s : State) : Host.Outcome State Fault Refusal :=
  finish (cmpImm16 .db nn s)

/-- R120: `ADD r,r'`. -/
def execAddReg (dst src : RegCode) (s : State) : Host.Outcome State Fault Refusal :=
  finish (withPair dst src addReg8 s)

/-- R121: `SUB r,r'`. -/
def execSubReg (dst src : RegCode) (s : State) : Host.Outcome State Fault Refusal :=
  finish (withPair dst src subReg8 s)

/-- R122: `CMP r,r'`. -/
def execCmpReg (dst src : RegCode) (s : State) : Host.Outcome State Fault Refusal :=
  finish (withPair dst src cmpReg8 s)

/-- R130: `AND r,r'`. -/
def execAndReg (dst src : RegCode) (s : State) : Host.Outcome State Fault Refusal :=
  finish (withPair dst src andReg8 s)

/-- R131: `OR r,r'`. -/
def execOrReg (dst src : RegCode) (s : State) : Host.Outcome State Fault Refusal :=
  finish (withPair dst src orReg8 s)

/-- R132: `XOR r,r'`. -/
def execXorReg (dst src : RegCode) (s : State) : Host.Outcome State Fault Refusal :=
  finish (withPair dst src xorReg8 s)

/-- R125: `ADD DA,DB`. -/
def execAddDaDb (s : State) : Host.Outcome State Fault Refusal :=
  finish (addReg16 .da .db s)

/-- R125: `ADD DB,DA`. -/
def execAddDbDa (s : State) : Host.Outcome State Fault Refusal :=
  finish (addReg16 .db .da s)

/-- R126: `SUB DA,DB`. -/
def execSubDaDb (s : State) : Host.Outcome State Fault Refusal :=
  finish (subReg16 .da .db s)

/-- R126: `SUB DB,DA`. -/
def execSubDbDa (s : State) : Host.Outcome State Fault Refusal :=
  finish (subReg16 .db .da s)

/-- R127: `CMP DA,DB`. -/
def execCmpDaDb (s : State) : Host.Outcome State Fault Refusal :=
  finish (cmpReg16 .da .db s)

/-- R127: `CMP DB,DA`. -/
def execCmpDbDa (s : State) : Host.Outcome State Fault Refusal :=
  finish (cmpReg16 .db .da s)

end Sys2Proof.Machine
end

