-- ==== Sys2Proof/Machine/Control.lean ====
section
/-!
DEFINITION. Basic control: NOP, HALT and SYS (40_control.md R92 to R94).
-/

namespace Sys2Proof.Machine

/-- The part of the state a SYS_HANDLER is called with (40_control.md R94). -/
def State.arch (s : State) : ArchState where
  a := s.a
  b := s.b
  c := s.c
  d := s.d
  e := s.e
  f := s.f
  da := s.da
  db := s.db
  idx := s.idx
  idy := s.idy
  pc := s.pc
  sp := s.sp
  flags := s.flags
  mem := s.mem

/-- `s` as a SYS_HANDLER leaves it (40_control.md R94): the registers, flags and memory it leaves, but for pc, which
stays at the address after the SYS unless the handler documents otherwise. -/
def State.afterHandler (s : State) (writesPc : Bool) (u : ArchState) : State :=
  { s with
    a := u.a
    b := u.b
    c := u.c
    d := u.d
    e := u.e
    f := u.f
    da := u.da
    db := u.db
    idx := u.idx
    idy := u.idy
    pc := if writesPc then u.pc else s.pc
    sp := u.sp
    flags := u.flags
    mem := Memory.normal s.config.memSize u.mem }

/-- `SYS n` under a SYS_HANDLER (40_control.md R94), given by its effect and by whether it documents that it writes pc:
the instruction completes, raises what the handler raises, or is refused where the handler gives it no meaning. -/
def sysWith (reply : Byte → ArchState → SysReply) (writesPc : Bool) (n : Byte) (s : State) :
    Host.Outcome State Fault Refusal :=
  match reply n s.arch with
  | .completes u => finish (.done () (s.afterHandler writesPc u))
  | .raises k u => finish (.raise k (s.afterHandler writesPc u))
  | .refuses => .refused (.sysUnmodelled n s)

/-- R92: `NOP`. -/
def execNop (s : State) : Host.Outcome State Fault Refusal :=
  finish (.done () s)

/-- R93: `HALT`. -/
def execHalt (s : State) : Host.Outcome State Fault Refusal :=
  finish (.done () { s with running := false })

/-- R94: `SYS n`, by the machine's SYS_HANDLER; with none supplied, the step is refused in the state that has fetched
the SYS. -/
def execSys (n : Byte) (s : State) : Host.Outcome State Fault Refusal :=
  match s.sysHandler with
  | none => .refused (.sysUnmodelled n s)
  | some h => sysWith h.reply h.writesPc n s

end Sys2Proof.Machine
end

