-- ==== Sys2Proof/Machine/Indexed.lean ====
section
/-!
DEFINITION. Indexed loads and stores of A, and index-pointer arithmetic (45_indexed.md R175 to R186). The pointer of a
post-modified form is updated after the access, so it is unchanged when the access faults (R175). Pointer arithmetic
writes no flag (R184 to R186).
-/

namespace Sys2Proof.Machine

/-- Load A from an effective address (45_indexed.md R176). -/
def loadA (ea : Nat) (s : State) : Effect Unit :=
  (readByte ea s).andThen fun v s1 => .done () (s1.put8 .a v)

/-- Store A at an effective address (45_indexed.md R177). -/
def storeA (ea : Nat) (s : State) : Effect Unit := writeByte ea s.a s

/-- LD A,(p) (45_indexed.md R176). -/
def loadIndirect (p : Reg16) (s : State) : Effect Unit := loadA (pointerAddr p s) s

/-- ST A,(p) (45_indexed.md R177). -/
def storeIndirect (p : Reg16) (s : State) : Effect Unit := storeA (pointerAddr p s) s

/-- LD A,(p+d) (45_indexed.md R178). -/
def loadDisplaced (p : Reg16) (d : Byte) (s : State) : Effect Unit := loadA (displacedAddr p d s) s

/-- ST A,(p+d) (45_indexed.md R179). -/
def storeDisplaced (p : Reg16) (d : Byte) (s : State) : Effect Unit := storeA (displacedAddr p d s) s

/-- INC p (45_indexed.md R184). -/
def incPointer (p : Reg16) (s : State) : Effect Unit := .done () (s.set16 p (s.get16 p + 1#16))

/-- DEC p (45_indexed.md R185). -/
def decPointer (p : Reg16) (s : State) : Effect Unit := .done () (s.set16 p (s.get16 p - 1#16))

/-- ADD p,#n (45_indexed.md R186): n is zero-extended. -/
def addPointer (p : Reg16) (n : Byte) (s : State) : Effect Unit := .done () (s.set16 p (s.get16 p + zext16 n))

/-- LD A,(p)+ (45_indexed.md R180). -/
def loadPostInc (p : Reg16) (s : State) : Effect Unit :=
  (loadIndirect p s).andThen fun _ s1 => incPointer p s1

/-- ST A,(p)+ (45_indexed.md R181). -/
def storePostInc (p : Reg16) (s : State) : Effect Unit :=
  (storeIndirect p s).andThen fun _ s1 => incPointer p s1

/-- LD A,(p)- (45_indexed.md R182). -/
def loadPostDec (p : Reg16) (s : State) : Effect Unit :=
  (loadIndirect p s).andThen fun _ s1 => decPointer p s1

/-- ST A,(p)- (45_indexed.md R183). -/
def storePostDec (p : Reg16) (s : State) : Effect Unit :=
  (storeIndirect p s).andThen fun _ s1 => decPointer p s1

/-- R184: `INC IDX`. -/
def execIncIdx (s : State) : Host.Outcome State Fault Refusal :=
  finish (incPointer .idx s)

/-- R184: `INC IDY`. -/
def execIncIdy (s : State) : Host.Outcome State Fault Refusal :=
  finish (incPointer .idy s)

/-- R185: `DEC IDX`. -/
def execDecIdx (s : State) : Host.Outcome State Fault Refusal :=
  finish (decPointer .idx s)

/-- R185: `DEC IDY`. -/
def execDecIdy (s : State) : Host.Outcome State Fault Refusal :=
  finish (decPointer .idy s)

/-- R186: `ADD IDX,#n`. -/
def execAddIdxImm (n : Byte) (s : State) : Host.Outcome State Fault Refusal :=
  finish (addPointer .idx n s)

/-- R186: `ADD IDY,#n`. -/
def execAddIdyImm (n : Byte) (s : State) : Host.Outcome State Fault Refusal :=
  finish (addPointer .idy n s)

/-- R176: `LDA (IDX)`. -/
def execLdaIdx (s : State) : Host.Outcome State Fault Refusal :=
  finish (loadIndirect .idx s)

/-- R176: `LDA (IDY)`. -/
def execLdaIdy (s : State) : Host.Outcome State Fault Refusal :=
  finish (loadIndirect .idy s)

/-- R177: `STA (IDX)`. -/
def execStaIdx (s : State) : Host.Outcome State Fault Refusal :=
  finish (storeIndirect .idx s)

/-- R177: `STA (IDY)`. -/
def execStaIdy (s : State) : Host.Outcome State Fault Refusal :=
  finish (storeIndirect .idy s)

/-- R178: `LDA (IDX+d)`. -/
def execLdaIdxDisp (d : Byte) (s : State) : Host.Outcome State Fault Refusal :=
  finish (loadDisplaced .idx d s)

/-- R178: `LDA (IDY+d)`. -/
def execLdaIdyDisp (d : Byte) (s : State) : Host.Outcome State Fault Refusal :=
  finish (loadDisplaced .idy d s)

/-- R179: `STA (IDX+d)`. -/
def execStaIdxDisp (d : Byte) (s : State) : Host.Outcome State Fault Refusal :=
  finish (storeDisplaced .idx d s)

/-- R179: `STA (IDY+d)`. -/
def execStaIdyDisp (d : Byte) (s : State) : Host.Outcome State Fault Refusal :=
  finish (storeDisplaced .idy d s)

/-- R180: `LDA (IDX)+`. -/
def execLdaIdxInc (s : State) : Host.Outcome State Fault Refusal :=
  finish (loadPostInc .idx s)

/-- R180: `LDA (IDY)+`. -/
def execLdaIdyInc (s : State) : Host.Outcome State Fault Refusal :=
  finish (loadPostInc .idy s)

/-- R181: `STA (IDX)+`. -/
def execStaIdxInc (s : State) : Host.Outcome State Fault Refusal :=
  finish (storePostInc .idx s)

/-- R181: `STA (IDY)+`. -/
def execStaIdyInc (s : State) : Host.Outcome State Fault Refusal :=
  finish (storePostInc .idy s)

/-- R182: `LDA (IDX)-`. -/
def execLdaIdxDec (s : State) : Host.Outcome State Fault Refusal :=
  finish (loadPostDec .idx s)

/-- R182: `LDA (IDY)-`. -/
def execLdaIdyDec (s : State) : Host.Outcome State Fault Refusal :=
  finish (loadPostDec .idy s)

/-- R183: `STA (IDX)-`. -/
def execStaIdxDec (s : State) : Host.Outcome State Fault Refusal :=
  finish (storePostDec .idx s)

/-- R183: `STA (IDY)-`. -/
def execStaIdyDec (s : State) : Host.Outcome State Fault Refusal :=
  finish (storePostDec .idy s)

end Sys2Proof.Machine
end

