-- ==== Sys2Proof/Machine/Jumps.lean ====
section
/-!
DEFINITION. Jumps, calls and returns (43_jumps_calls.md R140 to R152). In the execute phase pc is the address after the
instruction (40_control.md R91).
-/

namespace Sys2Proof.Machine

/-- An absolute jump (43_jumps_calls.md R140 to R146): pc <- a when the condition holds. -/
def jumpAbs (taken : Bool) (a : Word) (s : State) : Effect Unit :=
  .done () (if taken then s.set16 .pc a else s)

/-- A relative jump (43_jumps_calls.md R149 to R152). -/
def jumpRel (taken : Bool) (d : Byte) (s : State) : Effect Unit :=
  .done () (if taken then s.set16 .pc (relativeTarget d s) else s)

/-- CALL a (43_jumps_calls.md R147): push the return address, then pc <- a. -/
def callAbs (a : Word) (s : State) : Effect Unit :=
  (push16 s.pc s).andThen fun _ s1 => .done () (s1.set16 .pc a)

/-- RET (43_jumps_calls.md R148): pc <- Pop16(). -/
def returnFromCall (s : State) : Effect Unit :=
  (pop16 s).andThen fun v s1 => .done () (s1.set16 .pc v)

/-- R140: `JMP $a`. -/
def execJmp (a : Word) (s : State) : Host.Outcome State Fault Refusal :=
  finish (jumpAbs true a s)

/-- R141: `JZ $a`. -/
def execJz (a : Word) (s : State) : Host.Outcome State Fault Refusal :=
  finish (jumpAbs s.flags.z a s)

/-- R142: `JNZ $a`. -/
def execJnz (a : Word) (s : State) : Host.Outcome State Fault Refusal :=
  finish (jumpAbs (!s.flags.z) a s)

/-- R143: `JC $a`. -/
def execJc (a : Word) (s : State) : Host.Outcome State Fault Refusal :=
  finish (jumpAbs s.flags.c a s)

/-- R144: `JNC $a`. -/
def execJnc (a : Word) (s : State) : Host.Outcome State Fault Refusal :=
  finish (jumpAbs (!s.flags.c) a s)

/-- R145: `JN $a`. -/
def execJn (a : Word) (s : State) : Host.Outcome State Fault Refusal :=
  finish (jumpAbs s.flags.n a s)

/-- R146: `JNN $a`. -/
def execJnn (a : Word) (s : State) : Host.Outcome State Fault Refusal :=
  finish (jumpAbs (!s.flags.n) a s)

/-- R147: `CALL $a`. -/
def execCall (a : Word) (s : State) : Host.Outcome State Fault Refusal :=
  finish (callAbs a s)

/-- R148: `RET`. -/
def execRet (s : State) : Host.Outcome State Fault Refusal :=
  finish (returnFromCall s)

/-- R149: `JR d`. -/
def execJr (d : Byte) (s : State) : Host.Outcome State Fault Refusal :=
  finish (jumpRel true d s)

/-- R150: `JRZ d`. -/
def execJrz (d : Byte) (s : State) : Host.Outcome State Fault Refusal :=
  finish (jumpRel s.flags.z d s)

/-- R151: `JRNZ d`. -/
def execJrnz (d : Byte) (s : State) : Host.Outcome State Fault Refusal :=
  finish (jumpRel (!s.flags.z) d s)

/-- R152: `JRC d`. -/
def execJrc (d : Byte) (s : State) : Host.Outcome State Fault Refusal :=
  finish (jumpRel s.flags.c d s)

end Sys2Proof.Machine
end

