-- ==== Sys2Proof/Machine/Loads.lean ====
section
/-!
DEFINITION. Immediate and absolute loads (41_loads.md R100 to R105). A load into A-F, DA or DB sets Zero alone; a load
into IDX or IDY writes no flag (10_state.md R37).
-/

namespace Sys2Proof.Machine

/-- LD r,#n (41_loads.md R100). -/
def loadImm8 (r : Reg8) (n : Byte) (s : State) : Effect Unit := .done () (s.put8 r n)

/-- LD q,#nn and LD p,#nn (41_loads.md R102, R104). -/
def loadImm16 (q : Reg16) (nn : Word) (s : State) : Effect Unit := .done () (s.put16 q nn)

/-- LD r,[a] (41_loads.md R101). -/
def loadAbs8 (r : Reg8) (a : Word) (s : State) : Effect Unit :=
  (readByte a.toNat s).andThen fun v s1 => .done () (s1.put8 r v)

/-- LD q,[a] and LD p,[a] (41_loads.md R103, R105). -/
def loadAbs16 (q : Reg16) (a : Word) (s : State) : Effect Unit :=
  (readWord a.toNat s).andThen fun v s1 => .done () (s1.put16 q v)

/-- R100: `LDA #n`. -/
def execLdaImm (n : Byte) (s : State) : Host.Outcome State Fault Refusal :=
  finish (loadImm8 .a n s)

/-- R100: `LDB #n`. -/
def execLdbImm (n : Byte) (s : State) : Host.Outcome State Fault Refusal :=
  finish (loadImm8 .b n s)

/-- R100: `LDC #n`. -/
def execLdcImm (n : Byte) (s : State) : Host.Outcome State Fault Refusal :=
  finish (loadImm8 .c n s)

/-- R100: `LDD #n`. -/
def execLddImm (n : Byte) (s : State) : Host.Outcome State Fault Refusal :=
  finish (loadImm8 .d n s)

/-- R100: `LDE #n`. -/
def execLdeImm (n : Byte) (s : State) : Host.Outcome State Fault Refusal :=
  finish (loadImm8 .e n s)

/-- R100: `LDF #n`. -/
def execLdfImm (n : Byte) (s : State) : Host.Outcome State Fault Refusal :=
  finish (loadImm8 .f n s)

/-- R102: `LDDA #nn`. -/
def execLddaImm (nn : Word) (s : State) : Host.Outcome State Fault Refusal :=
  finish (loadImm16 .da nn s)

/-- R102: `LDDB #nn`. -/
def execLddbImm (nn : Word) (s : State) : Host.Outcome State Fault Refusal :=
  finish (loadImm16 .db nn s)

/-- R101: `LDA $a`. -/
def execLdaAbs (a : Word) (s : State) : Host.Outcome State Fault Refusal :=
  finish (loadAbs8 .a a s)

/-- R101: `LDB $a`. -/
def execLdbAbs (a : Word) (s : State) : Host.Outcome State Fault Refusal :=
  finish (loadAbs8 .b a s)

/-- R101: `LDC $a`. -/
def execLdcAbs (a : Word) (s : State) : Host.Outcome State Fault Refusal :=
  finish (loadAbs8 .c a s)

/-- R101: `LDD $a`. -/
def execLddAbs (a : Word) (s : State) : Host.Outcome State Fault Refusal :=
  finish (loadAbs8 .d a s)

/-- R101: `LDE $a`. -/
def execLdeAbs (a : Word) (s : State) : Host.Outcome State Fault Refusal :=
  finish (loadAbs8 .e a s)

/-- R101: `LDF $a`. -/
def execLdfAbs (a : Word) (s : State) : Host.Outcome State Fault Refusal :=
  finish (loadAbs8 .f a s)

/-- R103: `LDDA $a`. -/
def execLddaAbs (a : Word) (s : State) : Host.Outcome State Fault Refusal :=
  finish (loadAbs16 .da a s)

/-- R103: `LDDB $a`. -/
def execLddbAbs (a : Word) (s : State) : Host.Outcome State Fault Refusal :=
  finish (loadAbs16 .db a s)

/-- R104: `LDIX #nn`. -/
def execLdixImm (nn : Word) (s : State) : Host.Outcome State Fault Refusal :=
  finish (loadImm16 .idx nn s)

/-- R104: `LDIY #nn`. -/
def execLdiyImm (nn : Word) (s : State) : Host.Outcome State Fault Refusal :=
  finish (loadImm16 .idy nn s)

/-- R105: `LDIX $a`. -/
def execLdixAbs (a : Word) (s : State) : Host.Outcome State Fault Refusal :=
  finish (loadAbs16 .idx a s)

/-- R105: `LDIY $a`. -/
def execLdiyAbs (a : Word) (s : State) : Host.Outcome State Fault Refusal :=
  finish (loadAbs16 .idy a s)

end Sys2Proof.Machine
end

