-- ==== Sys2Proof/Machine/Moves.lean ====
section
/-!
DEFINITION. Register moves and swaps (46_moves.md R190 to R197). A move is a load-class write: Zero alone for A-F, DA
and DB, no flag for IDX and IDY; a swap writes no flag (10_state.md R37). Sources are read before anything is written.
-/

namespace Sys2Proof.Machine

/-- MOV r,r' (46_moves.md R190). -/
def movReg8 (dst src : Reg8) (s : State) : Effect Unit := .done () (s.put8 dst (s.get8 src))

/-- SWAP r,r' (46_moves.md R191). -/
def swapReg8 (dst src : Reg8) (s : State) : Effect Unit :=
  .done () ((s.set8 dst (s.get8 src)).set8 src (s.get8 dst))

/-- MOV between 16-bit registers (46_moves.md R192, R194, R195, R196). -/
def movReg16 (dst src : Reg16) (s : State) : Effect Unit := .done () (s.put16 dst (s.get16 src))

/-- SWAP DA,DB and SWAP IDX,IDY (46_moves.md R193, R197). -/
def swapReg16 (dst src : Reg16) (s : State) : Effect Unit :=
  .done () ((s.set16 dst (s.get16 src)).set16 src (s.get16 dst))

/-- R190: `MOV r,r'`. -/
def execMovReg (dst src : RegCode) (s : State) : Host.Outcome State Fault Refusal :=
  finish (withPair dst src movReg8 s)

/-- R191: `SWAP r,r'`. -/
def execSwapReg (dst src : RegCode) (s : State) : Host.Outcome State Fault Refusal :=
  finish (withPair dst src swapReg8 s)

/-- R192: `MOV DA,DB`. -/
def execMovDaDb (s : State) : Host.Outcome State Fault Refusal :=
  finish (movReg16 .da .db s)

/-- R192: `MOV DB,DA`. -/
def execMovDbDa (s : State) : Host.Outcome State Fault Refusal :=
  finish (movReg16 .db .da s)

/-- R193: `SWAP DA,DB`. -/
def execSwapDaDb (s : State) : Host.Outcome State Fault Refusal :=
  finish (swapReg16 .da .db s)

/-- R194: `MOV DA,IDX`. -/
def execMovDaIdx (s : State) : Host.Outcome State Fault Refusal :=
  finish (movReg16 .da .idx s)

/-- R194: `MOV DA,IDY`. -/
def execMovDaIdy (s : State) : Host.Outcome State Fault Refusal :=
  finish (movReg16 .da .idy s)

/-- R194: `MOV DB,IDX`. -/
def execMovDbIdx (s : State) : Host.Outcome State Fault Refusal :=
  finish (movReg16 .db .idx s)

/-- R194: `MOV DB,IDY`. -/
def execMovDbIdy (s : State) : Host.Outcome State Fault Refusal :=
  finish (movReg16 .db .idy s)

/-- R195: `MOV IDX,DA`. -/
def execMovIdxDa (s : State) : Host.Outcome State Fault Refusal :=
  finish (movReg16 .idx .da s)

/-- R195: `MOV IDY,DA`. -/
def execMovIdyDa (s : State) : Host.Outcome State Fault Refusal :=
  finish (movReg16 .idy .da s)

/-- R195: `MOV IDX,DB`. -/
def execMovIdxDb (s : State) : Host.Outcome State Fault Refusal :=
  finish (movReg16 .idx .db s)

/-- R195: `MOV IDY,DB`. -/
def execMovIdyDb (s : State) : Host.Outcome State Fault Refusal :=
  finish (movReg16 .idy .db s)

/-- R196: `MOV IDX,IDY`. -/
def execMovIdxIdy (s : State) : Host.Outcome State Fault Refusal :=
  finish (movReg16 .idx .idy s)

/-- R196: `MOV IDY,IDX`. -/
def execMovIdyIdx (s : State) : Host.Outcome State Fault Refusal :=
  finish (movReg16 .idy .idx s)

/-- R197: `SWAP IDX,IDY`. -/
def execSwapIdxIdy (s : State) : Host.Outcome State Fault Refusal :=
  finish (swapReg16 .idx .idy s)

end Sys2Proof.Machine
end

