-- ==== Sys2Proof/Machine/StoresStack.lean ====
section
/-!
DEFINITION. Absolute stores, PUSH and POP (44_stores_stack.md R160 to R171). No instruction checks SP (R163).
-/

namespace Sys2Proof.Machine

/-- ST r,[a] (44_stores_stack.md R160). -/
def storeAbs8 (r : Reg8) (a : Word) (s : State) : Effect Unit := writeByte a.toNat (s.get8 r) s

/-- ST q,[a] (44_stores_stack.md R161). -/
def storeAbs16 (q : Reg16) (a : Word) (s : State) : Effect Unit := writeWord a.toNat (s.get16 q) s

/-- PUSH r (44_stores_stack.md R168). -/
def pushReg8 (r : Reg8) (s : State) : Effect Unit := push8 (s.get8 r) s

/-- POP r (44_stores_stack.md R169): a load-class write. -/
def popReg8 (r : Reg8) (s : State) : Effect Unit :=
  (pop8 s).andThen fun v s1 => .done () (s1.put8 r v)

/-- PUSH q (44_stores_stack.md R170). -/
def pushReg16 (q : Reg16) (s : State) : Effect Unit := push16 (s.get16 q) s

/-- POP q (44_stores_stack.md R171): a load-class write. -/
def popReg16 (q : Reg16) (s : State) : Effect Unit :=
  (pop16 s).andThen fun v s1 => .done () (s1.put16 q v)

/-- R160: `STA $a`. -/
def execStaAbs (a : Word) (s : State) : Host.Outcome State Fault Refusal :=
  finish (storeAbs8 .a a s)

/-- R160: `STB $a`. -/
def execStbAbs (a : Word) (s : State) : Host.Outcome State Fault Refusal :=
  finish (storeAbs8 .b a s)

/-- R160: `STC $a`. -/
def execStcAbs (a : Word) (s : State) : Host.Outcome State Fault Refusal :=
  finish (storeAbs8 .c a s)

/-- R160: `STD $a`. -/
def execStdAbs (a : Word) (s : State) : Host.Outcome State Fault Refusal :=
  finish (storeAbs8 .d a s)

/-- R160: `STE $a`. -/
def execSteAbs (a : Word) (s : State) : Host.Outcome State Fault Refusal :=
  finish (storeAbs8 .e a s)

/-- R160: `STF $a`. -/
def execStfAbs (a : Word) (s : State) : Host.Outcome State Fault Refusal :=
  finish (storeAbs8 .f a s)

/-- R161: `STDA $a`. -/
def execStdaAbs (a : Word) (s : State) : Host.Outcome State Fault Refusal :=
  finish (storeAbs16 .da a s)

/-- R161: `STDB $a`. -/
def execStdbAbs (a : Word) (s : State) : Host.Outcome State Fault Refusal :=
  finish (storeAbs16 .db a s)

/-- R168: `PUSH A`. -/
def execPushA (s : State) : Host.Outcome State Fault Refusal :=
  finish (pushReg8 .a s)

/-- R168: `PUSH B`. -/
def execPushB (s : State) : Host.Outcome State Fault Refusal :=
  finish (pushReg8 .b s)

/-- R168: `PUSH C`. -/
def execPushC (s : State) : Host.Outcome State Fault Refusal :=
  finish (pushReg8 .c s)

/-- R168: `PUSH D`. -/
def execPushD (s : State) : Host.Outcome State Fault Refusal :=
  finish (pushReg8 .d s)

/-- R168: `PUSH E`. -/
def execPushE (s : State) : Host.Outcome State Fault Refusal :=
  finish (pushReg8 .e s)

/-- R168: `PUSH F`. -/
def execPushF (s : State) : Host.Outcome State Fault Refusal :=
  finish (pushReg8 .f s)

/-- R170: `PUSH DA`. -/
def execPushDa (s : State) : Host.Outcome State Fault Refusal :=
  finish (pushReg16 .da s)

/-- R170: `PUSH DB`. -/
def execPushDb (s : State) : Host.Outcome State Fault Refusal :=
  finish (pushReg16 .db s)

/-- R169: `POP A`. -/
def execPopA (s : State) : Host.Outcome State Fault Refusal :=
  finish (popReg8 .a s)

/-- R169: `POP B`. -/
def execPopB (s : State) : Host.Outcome State Fault Refusal :=
  finish (popReg8 .b s)

/-- R169: `POP C`. -/
def execPopC (s : State) : Host.Outcome State Fault Refusal :=
  finish (popReg8 .c s)

/-- R169: `POP D`. -/
def execPopD (s : State) : Host.Outcome State Fault Refusal :=
  finish (popReg8 .d s)

/-- R169: `POP E`. -/
def execPopE (s : State) : Host.Outcome State Fault Refusal :=
  finish (popReg8 .e s)

/-- R169: `POP F`. -/
def execPopF (s : State) : Host.Outcome State Fault Refusal :=
  finish (popReg8 .f s)

/-- R171: `POP DA`. -/
def execPopDa (s : State) : Host.Outcome State Fault Refusal :=
  finish (popReg16 .da s)

/-- R171: `POP DB`. -/
def execPopDb (s : State) : Host.Outcome State Fault Refusal :=
  finish (popReg16 .db s)

end Sys2Proof.Machine
end

