-- ==== Sys2Proof/Machine/Dispatch.lean ====
section
/-!
DEFINITION. The dispatcher: one arm per constructor of `Instr`, in the order of the opcode map (30_encoding.md R77).
-/

namespace Sys2Proof.Machine

def exec (i : Instr) (s : State) : Host.Outcome State Fault Refusal :=
  match i with
  | .nop => Sys2Proof.Machine.execNop s
  | .halt => Sys2Proof.Machine.execHalt s
  | .sys n => Sys2Proof.Machine.execSys n s
  | .ldaImm n => Sys2Proof.Machine.execLdaImm n s
  | .ldbImm n => Sys2Proof.Machine.execLdbImm n s
  | .ldcImm n => Sys2Proof.Machine.execLdcImm n s
  | .lddImm n => Sys2Proof.Machine.execLddImm n s
  | .ldeImm n => Sys2Proof.Machine.execLdeImm n s
  | .ldfImm n => Sys2Proof.Machine.execLdfImm n s
  | .lddaImm nn => Sys2Proof.Machine.execLddaImm nn s
  | .lddbImm nn => Sys2Proof.Machine.execLddbImm nn s
  | .ldaAbs a => Sys2Proof.Machine.execLdaAbs a s
  | .ldbAbs a => Sys2Proof.Machine.execLdbAbs a s
  | .ldcAbs a => Sys2Proof.Machine.execLdcAbs a s
  | .lddAbs a => Sys2Proof.Machine.execLddAbs a s
  | .ldeAbs a => Sys2Proof.Machine.execLdeAbs a s
  | .ldfAbs a => Sys2Proof.Machine.execLdfAbs a s
  | .lddaAbs a => Sys2Proof.Machine.execLddaAbs a s
  | .lddbAbs a => Sys2Proof.Machine.execLddbAbs a s
  | .staAbs a => Sys2Proof.Machine.execStaAbs a s
  | .stbAbs a => Sys2Proof.Machine.execStbAbs a s
  | .stcAbs a => Sys2Proof.Machine.execStcAbs a s
  | .stdAbs a => Sys2Proof.Machine.execStdAbs a s
  | .steAbs a => Sys2Proof.Machine.execSteAbs a s
  | .stfAbs a => Sys2Proof.Machine.execStfAbs a s
  | .stdaAbs a => Sys2Proof.Machine.execStdaAbs a s
  | .stdbAbs a => Sys2Proof.Machine.execStdbAbs a s
  | .incA => Sys2Proof.Machine.execIncA s
  | .incB => Sys2Proof.Machine.execIncB s
  | .incC => Sys2Proof.Machine.execIncC s
  | .incD => Sys2Proof.Machine.execIncD s
  | .incE => Sys2Proof.Machine.execIncE s
  | .incF => Sys2Proof.Machine.execIncF s
  | .incDa => Sys2Proof.Machine.execIncDa s
  | .incDb => Sys2Proof.Machine.execIncDb s
  | .decA => Sys2Proof.Machine.execDecA s
  | .decB => Sys2Proof.Machine.execDecB s
  | .decC => Sys2Proof.Machine.execDecC s
  | .decD => Sys2Proof.Machine.execDecD s
  | .decE => Sys2Proof.Machine.execDecE s
  | .decF => Sys2Proof.Machine.execDecF s
  | .decDa => Sys2Proof.Machine.execDecDa s
  | .decDb => Sys2Proof.Machine.execDecDb s
  | .notA => Sys2Proof.Machine.execNotA s
  | .notB => Sys2Proof.Machine.execNotB s
  | .notC => Sys2Proof.Machine.execNotC s
  | .notD => Sys2Proof.Machine.execNotD s
  | .notE => Sys2Proof.Machine.execNotE s
  | .notF => Sys2Proof.Machine.execNotF s
  | .shlA => Sys2Proof.Machine.execShlA s
  | .shlB => Sys2Proof.Machine.execShlB s
  | .shlC => Sys2Proof.Machine.execShlC s
  | .shlD => Sys2Proof.Machine.execShlD s
  | .shlE => Sys2Proof.Machine.execShlE s
  | .shlF => Sys2Proof.Machine.execShlF s
  | .shrA => Sys2Proof.Machine.execShrA s
  | .shrB => Sys2Proof.Machine.execShrB s
  | .shrC => Sys2Proof.Machine.execShrC s
  | .shrD => Sys2Proof.Machine.execShrD s
  | .shrE => Sys2Proof.Machine.execShrE s
  | .shrF => Sys2Proof.Machine.execShrF s
  | .pushA => Sys2Proof.Machine.execPushA s
  | .pushB => Sys2Proof.Machine.execPushB s
  | .pushC => Sys2Proof.Machine.execPushC s
  | .pushD => Sys2Proof.Machine.execPushD s
  | .pushE => Sys2Proof.Machine.execPushE s
  | .pushF => Sys2Proof.Machine.execPushF s
  | .pushDa => Sys2Proof.Machine.execPushDa s
  | .pushDb => Sys2Proof.Machine.execPushDb s
  | .popA => Sys2Proof.Machine.execPopA s
  | .popB => Sys2Proof.Machine.execPopB s
  | .popC => Sys2Proof.Machine.execPopC s
  | .popD => Sys2Proof.Machine.execPopD s
  | .popE => Sys2Proof.Machine.execPopE s
  | .popF => Sys2Proof.Machine.execPopF s
  | .popDa => Sys2Proof.Machine.execPopDa s
  | .popDb => Sys2Proof.Machine.execPopDb s
  | .cmpAImm n => Sys2Proof.Machine.execCmpAImm n s
  | .cmpBImm n => Sys2Proof.Machine.execCmpBImm n s
  | .cmpCImm n => Sys2Proof.Machine.execCmpCImm n s
  | .cmpDImm n => Sys2Proof.Machine.execCmpDImm n s
  | .cmpEImm n => Sys2Proof.Machine.execCmpEImm n s
  | .cmpFImm n => Sys2Proof.Machine.execCmpFImm n s
  | .cmpDaImm nn => Sys2Proof.Machine.execCmpDaImm nn s
  | .cmpDbImm nn => Sys2Proof.Machine.execCmpDbImm nn s
  | .addReg dst src => Sys2Proof.Machine.execAddReg dst src s
  | .subReg dst src => Sys2Proof.Machine.execSubReg dst src s
  | .cmpReg dst src => Sys2Proof.Machine.execCmpReg dst src s
  | .andReg dst src => Sys2Proof.Machine.execAndReg dst src s
  | .orReg dst src => Sys2Proof.Machine.execOrReg dst src s
  | .xorReg dst src => Sys2Proof.Machine.execXorReg dst src s
  | .movReg dst src => Sys2Proof.Machine.execMovReg dst src s
  | .swapReg dst src => Sys2Proof.Machine.execSwapReg dst src s
  | .addDaDb => Sys2Proof.Machine.execAddDaDb s
  | .addDbDa => Sys2Proof.Machine.execAddDbDa s
  | .subDaDb => Sys2Proof.Machine.execSubDaDb s
  | .subDbDa => Sys2Proof.Machine.execSubDbDa s
  | .cmpDaDb => Sys2Proof.Machine.execCmpDaDb s
  | .cmpDbDa => Sys2Proof.Machine.execCmpDbDa s
  | .movDaDb => Sys2Proof.Machine.execMovDaDb s
  | .movDbDa => Sys2Proof.Machine.execMovDbDa s
  | .swapDaDb => Sys2Proof.Machine.execSwapDaDb s
  | .movDaIdx => Sys2Proof.Machine.execMovDaIdx s
  | .movDaIdy => Sys2Proof.Machine.execMovDaIdy s
  | .movDbIdx => Sys2Proof.Machine.execMovDbIdx s
  | .movDbIdy => Sys2Proof.Machine.execMovDbIdy s
  | .movIdxDa => Sys2Proof.Machine.execMovIdxDa s
  | .movIdyDa => Sys2Proof.Machine.execMovIdyDa s
  | .movIdxDb => Sys2Proof.Machine.execMovIdxDb s
  | .movIdyDb => Sys2Proof.Machine.execMovIdyDb s
  | .movIdxIdy => Sys2Proof.Machine.execMovIdxIdy s
  | .movIdyIdx => Sys2Proof.Machine.execMovIdyIdx s
  | .swapIdxIdy => Sys2Proof.Machine.execSwapIdxIdy s
  | .jmp a => Sys2Proof.Machine.execJmp a s
  | .jz a => Sys2Proof.Machine.execJz a s
  | .jnz a => Sys2Proof.Machine.execJnz a s
  | .jc a => Sys2Proof.Machine.execJc a s
  | .jnc a => Sys2Proof.Machine.execJnc a s
  | .jn a => Sys2Proof.Machine.execJn a s
  | .jnn a => Sys2Proof.Machine.execJnn a s
  | .call a => Sys2Proof.Machine.execCall a s
  | .ret => Sys2Proof.Machine.execRet s
  | .jr d => Sys2Proof.Machine.execJr d s
  | .jrz d => Sys2Proof.Machine.execJrz d s
  | .jrnz d => Sys2Proof.Machine.execJrnz d s
  | .jrc d => Sys2Proof.Machine.execJrc d s
  | .ldixImm nn => Sys2Proof.Machine.execLdixImm nn s
  | .ldiyImm nn => Sys2Proof.Machine.execLdiyImm nn s
  | .ldixAbs a => Sys2Proof.Machine.execLdixAbs a s
  | .ldiyAbs a => Sys2Proof.Machine.execLdiyAbs a s
  | .incIdx => Sys2Proof.Machine.execIncIdx s
  | .incIdy => Sys2Proof.Machine.execIncIdy s
  | .decIdx => Sys2Proof.Machine.execDecIdx s
  | .decIdy => Sys2Proof.Machine.execDecIdy s
  | .addIdxImm n => Sys2Proof.Machine.execAddIdxImm n s
  | .addIdyImm n => Sys2Proof.Machine.execAddIdyImm n s
  | .ldaIdx => Sys2Proof.Machine.execLdaIdx s
  | .ldaIdy => Sys2Proof.Machine.execLdaIdy s
  | .staIdx => Sys2Proof.Machine.execStaIdx s
  | .staIdy => Sys2Proof.Machine.execStaIdy s
  | .ldaIdxDisp d => Sys2Proof.Machine.execLdaIdxDisp d s
  | .ldaIdyDisp d => Sys2Proof.Machine.execLdaIdyDisp d s
  | .staIdxDisp d => Sys2Proof.Machine.execStaIdxDisp d s
  | .staIdyDisp d => Sys2Proof.Machine.execStaIdyDisp d s
  | .ldaIdxInc => Sys2Proof.Machine.execLdaIdxInc s
  | .ldaIdyInc => Sys2Proof.Machine.execLdaIdyInc s
  | .staIdxInc => Sys2Proof.Machine.execStaIdxInc s
  | .staIdyInc => Sys2Proof.Machine.execStaIdyInc s
  | .ldaIdxDec => Sys2Proof.Machine.execLdaIdxDec s
  | .ldaIdyDec => Sys2Proof.Machine.execLdaIdyDec s
  | .staIdxDec => Sys2Proof.Machine.execStaIdxDec s
  | .staIdyDec => Sys2Proof.Machine.execStaIdyDec s

end Sys2Proof.Machine
end

