-- ==== Sys2Proof/Machine/Fetch.lean ====
section
/-!
DEFINITION. Fetching an instruction's octets (00_scope.md R13, 40_control.md R90, R96).
-/

namespace Sys2Proof.Machine

/-- `Fetch8()`: read the octet at pc, then advance pc modulo 2^16 (00_scope.md R13). A failed read leaves pc where it
was (60_exceptions.md R204). -/
def fetch8 (s : State) : Effect Byte :=
  (readByte s.pc.toNat s).andThen fun v s1 => .done v (s1.set16 .pc (s1.pc + 1#16))

/-- `Fetch16()`: the low octet, then the high octet (00_scope.md R13). -/
def fetch16 (s : State) : Effect Word :=
  (fetch8 s).andThen fun lo s1 =>
    (fetch8 s1).andThen fun hi s2 =>
      .done (concat hi lo) s2

/-- The operand octets of an opcode, by its row of the opcode map (40_control.md R90). -/
def fetchOperands (row : OpcodeRow) (s : State) : Effect Instr :=
  match row with
  | .f0 i => .done i s
  | .f1 mk => (fetch8 s).andThen fun n s1 => .done (mk n) s1
  | .f2 mk => (fetch8 s).andThen fun rr s1 => .done (mk (pairDst rr) (pairSrc rr)) s1
  | .f3 mk => (fetch16 s).andThen fun nn s1 => .done (mk nn) s1

/-- The fetch of one instruction, by the machine's OPCODE_MAP (00_scope.md R7): an unassigned opcode raises
UnknownInstruction before any operand octet is fetched (40_control.md R90, R96). -/
def fetchInstr (s : State) : Effect Instr :=
  (fetch8 s).andThen fun op s1 =>
    match rowOf s.config.opcodeMap op with
    | none => .raise (.unknownInstruction op) s1
    | some row => fetchOperands row s1

/-- Put octets where the next fetches read them: at pc, pc + 1, ... modulo 2^16. An octet outside memory is dropped: its
fetch faults whatever it is. -/
def placeOctets : List Byte → Word → State → State
  | [], _, s => s
  | v :: vs, addr, s =>
    placeOctets vs (addr + 1#16)
      (if addr.toNat < s.config.memSize then { s with mem := Memory.write s.mem addr.toNat v } else s)

end Sys2Proof.Machine
end

