-- ==== Sys2Proof/Machine/Step.lean ====
section
/-!
DEFINITION. One step of the core (40_control.md R90), and how the host of this model places an instruction.
-/

namespace Sys2Proof.Machine

/-- One step (40_control.md R90): nothing while Halted or Faulted (R95, log entry 9); else fetch, and execute what was
fetched; a fault of the fetch is taken (60_exceptions.md R204). -/
def step (s : State) : Host.Outcome State Fault Refusal :=
  if s.running then
    match fetchInstr s with
    | .done i s1 => exec i s1
    | .raise k s1 => .next (takeFault k s1)
  else .next s

/-- One step under a SYS_HANDLER given as a function, an argument of the step (92_eei_decisions.md D11): `step` but that
a SYS takes this handler's effect, whatever `s.sysHandler` is. -/
def stepWith (reply : Byte → ArchState → SysReply) (writesPc : Bool) (s : State) : Host.Outcome State Fault Refusal :=
  if s.running then
    match fetchInstr s with
    | .done (.sys n) s1 => sysWith reply writesPc n s1
    | .done i s1 => exec i s1
    | .raise k s1 => .next (takeFault k s1)
  else .next s

/-- `s` with the instruction whose bits are `w` where `step` fetches next: its octets at pc (standing for LoadProgram)
and the core Running (standing for Start), as log entry 10 says. The bits number the opcode as the spec's own map does.
-/
def State.withFetchWord (s : State) (nbits w : Nat) : State :=
  { placeOctets (tableOctets nbits w) s.pc s with running := true }

end Sys2Proof.Machine
end

