-- ==== Sys2Proof/Machine/HostOps.lean ====
section
/-!
DEFINITION. The host interface (60_exceptions.md R217 to R229, 20_memory.md R66, R67, 70_reset_and_hazards.md R230):
construction, Reset, LoadProgram, Clear, Start, Stop, step, and the register, flag, counter and memory accessors. Every
operation takes effect between two steps (60_exceptions.md R220).
-/

namespace Sys2Proof.Machine

/-- What a host operation that fails returns to the host; the core is unchanged and the fault record untouched
(60_exceptions.md R200, R227, R228; 90_conflicts.md C12). -/
inductive HostError where
  /-- Cause code 1: a host access outside `[0, MEM_SIZE)` (R228). -/
  | addressOutOfRange (addr : Int)
  /-- Cause code 3: a register accessor given an unrecognised identifier (R227, log entry 14). -/
  | invalidRegisterIdentifier (id : String)
  /-- Cause code 4: LoadProgram alone raises it (R200, 20_memory.md R66). -/
  | programTooLarge
deriving DecidableEq, Repr

/-- The numeric cause code of a recorded fault (60_exceptions.md R200). -/
def Fault.causeCode : Fault → Nat
  | .addressOutOfRange _ => 1
  | .unknownInstruction _ => 2
  | .invalidRegisterIdentifier _ => 3

/-- The numeric cause code of a fault returned to the host (60_exceptions.md R200). -/
def HostError.causeCode : HostError → Nat
  | .addressOutOfRange _ => 1
  | .invalidRegisterIdentifier _ => 3
  | .programTooLarge => 4

/-! ### Reset and construction -/

/-- `Reset()` (70_reset_and_hazards.md R230): memory, the parameters and the model's draw counter are not changed; the
clock mode has no value until Start sets it (R232, log entry 11). -/
def hostReset (s : State) : State where
  a := 0x00#8
  b := 0x00#8
  c := 0x00#8
  d := 0x00#8
  e := 0x00#8
  f := 0x00#8
  da := 0x0000#16
  db := 0x0000#16
  idx := 0x0000#16
  idy := 0x0000#16
  pc := s.config.bootAddr
  sp := BitVec.ofNat 16 (s.config.memSize - 1)
  flags := { z := false, c := false, o := false, n := false }
  running := false
  fault := none
  instructionsExecuted := 0
  cyclesExecuted := 0
  mode := none
  mem := s.mem
  config := s.config
  sysHandler := s.sysHandler
  draws := s.draws

/-- Construction (60_exceptions.md R221): bound to one memory whose contents are the launch memory, an arbitrary input
(10_state.md R39), then Reset. -/
def construct (config : Config) (launch : Memory) (sysHandler : Option SysHandler := none) : State :=
  hostReset { State.reset with
    config := config
    sysHandler := sysHandler
    mem := Memory.normal config.memSize launch }

/-! ### Memory operations -/

/-- `LoadProgram(bytes, origin)` (20_memory.md R66). -/
def loadProgram (bytes : List Byte) (s : State) (origin : Nat := 0) : Except HostError State :=
  if origin + bytes.length > s.config.memSize then .error .programTooLarge
  else .ok { s with mem := Memory.writeBytes s.mem origin bytes }

/-- `Clear()` (20_memory.md R67): every byte becomes 0x00. -/
def clearMemory (s : State) : State := { s with mem := Memory.filled 0x00#8 }

/-- The range check of a host access (20_memory.md R52, 60_exceptions.md R228); the host's address is an integer. -/
def hostAddr (a : Int) (s : State) : Except HostError Nat :=
  if 0 ≤ a ∧ a < s.config.memSize then .ok a.toNat else .error (.addressOutOfRange a)

/-- `ReadByte(addr)` (60_exceptions.md R228). -/
def hostReadByte (a : Int) (s : State) : Except HostError Byte := do
  let n ← hostAddr a s
  return Memory.read s.mem n

/-- `WriteByte(addr, v)` (60_exceptions.md R228). -/
def hostWriteByte (a : Int) (v : Byte) (s : State) : Except HostError State := do
  let n ← hostAddr a s
  return { s with mem := Memory.write s.mem n v }

/-- `ReadWord(addr)` (60_exceptions.md R228, 20_memory.md R54): the low byte is checked first. -/
def hostReadWord (a : Int) (s : State) : Except HostError Word := do
  let lo ← hostReadByte a s
  let hi ← hostReadByte (a + 1) s
  return concat hi lo

/-- `WriteWord(addr, v)` (60_exceptions.md R228, 20_memory.md R55): one that fails changes nothing. -/
def hostWriteWord (a : Int) (v : Word) (s : State) : Except HostError State := do
  let lo ← hostAddr a s
  let hi ← hostAddr (a + 1) s
  return { s with mem := Memory.write (Memory.write s.mem lo (lowByte v)) hi (highByte v) }

/-! ### Running -/

/-- `Start(mode)` (60_exceptions.md R222): no effect on a Faulted core; else Running in the given mode, at the current
pc. -/
def start (mode : ClockMode) (s : State) : State :=
  match s.fault with
  | some _ => s
  | none => { s with running := true, mode := some mode }

/-- `Stop()` (60_exceptions.md R223): running <- 0 at an instruction boundary, and nothing else. -/
def stop (s : State) : State := { s with running := false }

/-- Disposal halts a background loop in the same way as `Stop()` (60_exceptions.md R223). -/
def dispose (s : State) : State := stop s

/-- `execute_step()` and `execute_cycle()` (60_exceptions.md R224, 40_control.md R90). -/
def hostStep (s : State) : Host.Outcome State Fault Refusal := step s

/-! ### Reads and register accessors -/

/-- The 8-bit register an identifier names (60_exceptions.md R227, log entry 14). -/
def reg8OfId (id : String) : Option Reg8 :=
  if id = "A" then some .a
  else if id = "B" then some .b
  else if id = "C" then some .c
  else if id = "D" then some .d
  else if id = "E" then some .e
  else if id = "F" then some .f
  else none

/-- The 16-bit register an identifier names (60_exceptions.md R227, log entry 14). -/
def reg16OfId (id : String) : Option Reg16 :=
  if id = "DA" then some .da
  else if id = "DB" then some .db
  else if id = "PC" then some .pc
  else if id = "SP" then some .sp
  else if id = "IDX" then some .idx
  else if id = "IDY" then some .idy
  else none

/-- `get_register(id)` (60_exceptions.md R227). -/
def getRegister (id : String) (s : State) : Except HostError Byte :=
  match reg8OfId id with
  | some r => .ok (s.get8 r)
  | none => .error (.invalidRegisterIdentifier id)

/-- `set_register(id, v)`: writes v & 0xFF and updates Zero alone (60_exceptions.md R227). -/
def setRegister (id : String) (v : Nat) (s : State) : Except HostError State :=
  match reg8OfId id with
  | some r => .ok (s.put8 r (BitVec.ofNat 8 v))
  | none => .error (.invalidRegisterIdentifier id)

/-- `get_register16(id)` (60_exceptions.md R227). -/
def getRegister16 (id : String) (s : State) : Except HostError Word :=
  match reg16OfId id with
  | some p => .ok (s.get16 p)
  | none => .error (.invalidRegisterIdentifier id)

/-- `set_register16(id, v)`: writes v & 0xFFFF; Zero for DA and DB, no flag for PC, SP, IDX and IDY
(60_exceptions.md R227). -/
def setRegister16 (id : String) (v : Nat) (s : State) : Except HostError State :=
  match reg16OfId id with
  | some p => .ok (s.put16 p (BitVec.ofNat 16 v))
  | none => .error (.invalidRegisterIdentifier id)

/-- The packed status value S the host reads (10_state.md R33, 60_exceptions.md R227). -/
def readStatus (s : State) : Byte := statusByte s.flags

/-- The counter reads, instructions and cycles executed (60_exceptions.md R226). -/
def readCounters (s : State) : Nat × Nat := (s.instructionsExecuted, s.cyclesExecuted)

/-! ### Host operations between steps -/

/-- The operations of 60_exceptions.md R217 that can change the core. -/
inductive HostOp where
  /-- `Reset()`. -/
  | reset
  /-- `LoadProgram(bytes, origin)`. -/
  | loadProgram (bytes : List Byte) (origin : Nat)
  /-- `Clear()`. -/
  | clear
  /-- `Start(mode)`. -/
  | start (mode : ClockMode)
  /-- `Stop()`. -/
  | stop
  /-- One step of the core. -/
  | step
  /-- `set_register(id, v)`. -/
  | setRegister (id : String) (v : Nat)
  /-- `set_register16(id, v)`. -/
  | setRegister16 (id : String) (v : Nat)
  /-- `WriteByte(addr, v)`. -/
  | writeByte (a : Int) (v : Byte)
  /-- `WriteWord(addr, v)`. -/
  | writeWord (a : Int) (v : Word)
deriving DecidableEq, Repr

/-- What a host operation answers. -/
inductive HostReply where
  /-- It took effect. -/
  | done (s : State)
  /-- It failed, and the core is as before. -/
  | failed (e : HostError)
  /-- It stepped the core into an instruction with no meaning. -/
  | refused (r : Refusal)
deriving DecidableEq, Repr

/-- The reply of an operation that succeeds or fails. -/
def HostReply.ofExcept : Except HostError State → HostReply
  | .ok s => .done s
  | .error e => .failed e

/-- The reply of a step. No step answers `fault` (log entry 7): a fault is a next state already. -/
def HostReply.ofStep (s : State) : Host.Outcome State Fault Refusal → HostReply
  | .next t => .done t
  | .fault k => .done (takeFault k s)
  | .refused r => .refused r

/-- One host operation on the core (60_exceptions.md R217). -/
def hostApply (op : HostOp) (s : State) : HostReply :=
  match op with
  | .reset => .done (hostReset s)
  | .loadProgram bytes origin => .ofExcept (loadProgram bytes s origin)
  | .clear => .done (clearMemory s)
  | .start mode => .done (start mode s)
  | .stop => .done (stop s)
  | .step => .ofStep s (hostStep s)
  | .setRegister id v => .ofExcept (setRegister id v s)
  | .setRegister16 id v => .ofExcept (setRegister16 id v s)
  | .writeByte a v => .ofExcept (hostWriteByte a v s)
  | .writeWord a v => .ofExcept (hostWriteWord a v s)

/-- The states at the instruction boundaries of a run that interleaves host operations with steps, the earliest first
(60_exceptions.md R220). A host read of a run that is at the last of them answers for that one, or, under the snapshot
option, for any of them. -/
def boundaries : List HostOp → State → List State
  | [], s => [s]
  | op :: ops, s =>
    match hostApply op s with
    | .done t => s :: boundaries ops t
    | .failed _ => s :: boundaries ops s
    | .refused _ => [s]

end Sys2Proof.Machine
end

