-- ==== Sys2Proof/Safety.lean ====
section
/-!
DEFINITION. The terms statements use: the run states (60_exceptions.md R218), the invariant every step and every host
operation keeps, and what it means that an instruction changes only what it names.
-/

namespace Sys2Proof.Machine

/-! ### Run states -/

/-- Halted: not running, no fault recorded; after HALT the normal end of a run (00_scope.md R19, 60_exceptions.md R218).
-/
def State.halted (s : State) : Prop := s.running = false ∧ s.fault = none

/-- Faulted: not running, a fault recorded (60_exceptions.md R204, R218). -/
def State.faulted (s : State) : Prop := s.running = false ∧ s.fault ≠ none

/-- The next step of a Running core would run a SYS under a supplied SYS_HANDLER, whose effect may read and write
whatever R94 allows (40_control.md). -/
def State.runsHandler (s : State) : Prop := s.sysHandler ≠ none ∧ ∃ n u, fetchInstr s = .done (.sys n) u

/-! ### The invariant -/

/-- What the fault record may hold (10_state.md R35, 60_exceptions.md R200): an address outside memory and at most
0x10000, an opcode the OPCODE_MAP leaves unassigned, or a field that names no register. -/
def Fault.legal (config : Config) : Fault → Bool
  | .addressOutOfRange a => decide (config.memSize ≤ a) && decide (a ≤ 0x10000)
  | .unknownInstruction op => (rowOf config.opcodeMap op).isNone
  | .invalidRegisterIdentifier code => decide (6 ≤ code.toNat)

/-- The invariant: the parameters lie in their ranges; memory is in its canonical form and inside `[0, MEM_SIZE)`; a
recorded fault has stopped the core, and is a legal one where there is no SYS_HANDLER (what a handler raises is its own,
40_control.md R94); the two counters agree. -/
structure State.Inv (s : State) : Prop where
  /-- 00_scope.md R7. -/
  config_wf : s.config.wf = true
  /-- The canonical form of the memory list. -/
  mem_wf : Memory.wf s.mem = true
  /-- 20_memory.md R50. -/
  mem_inRange : Memory.inRange s.config.memSize s.mem = true
  /-- 60_exceptions.md R204, R218. -/
  fault_stops : s.fault ≠ none → s.running = false
  /-- 10_state.md R35. -/
  fault_legal : s.sysHandler = none → ∀ k, s.fault = some k → k.legal s.config = true
  /-- 60_exceptions.md R226. -/
  counters_agree : s.cyclesExecuted = s.instructionsExecuted

/-! ### Frames -/

/-- One piece of state, for saying what an instruction leaves unchanged. -/
inductive Loc where
  | reg8 (r : Reg8)
  | reg16 (p : Reg16)
  | flagZ
  | flagC
  | flagO
  | flagN
  | running
  | fault
  | instructionsExecuted
  | cyclesExecuted
  | mode
  | config
  | sysHandler
  | draws
  /-- The byte of memory at an address, as a read of it sees it. -/
  | byte (a : Nat)
deriving DecidableEq, Repr

/-- Two states agree on one piece of state. -/
def State.agreeAt (s t : State) : Loc → Prop
  | .reg8 r => t.get8 r = s.get8 r
  | .reg16 p => t.get16 p = s.get16 p
  | .flagZ => t.flags.z = s.flags.z
  | .flagC => t.flags.c = s.flags.c
  | .flagO => t.flags.o = s.flags.o
  | .flagN => t.flags.n = s.flags.n
  | .running => t.running = s.running
  | .fault => t.fault = s.fault
  | .instructionsExecuted => t.instructionsExecuted = s.instructionsExecuted
  | .cyclesExecuted => t.cyclesExecuted = s.cyclesExecuted
  | .mode => t.mode = s.mode
  | .config => t.config = s.config
  | .sysHandler => t.sysHandler = s.sysHandler
  | .draws => t.draws = s.draws
  | .byte a => Memory.read t.mem a = Memory.read s.mem a

/-- Everything but the listed pieces of state is as before: every other register, flag, byte of memory and field. -/
def State.sameBut (changed : List Loc) (s t : State) : Prop := ∀ l, l ∉ changed → s.agreeAt t l

/-- From `s` to `t` an instruction completed (60_exceptions.md R226: both counters go up by 1), and everything but the
counters and the listed pieces of state is as before. -/
def State.completes (changed : List Loc) (s t : State) : Prop :=
  t.instructionsExecuted = s.instructionsExecuted + 1 ∧ t.cyclesExecuted = s.cyclesExecuted + 1 ∧
    State.sameBut (.instructionsExecuted :: .cyclesExecuted :: changed) s t

/-- From `s` to `t` an instruction raised `k` (60_exceptions.md R204): the record holds it, the core has stopped, and
everything but those two and the listed pieces of state is as before, the counters too. -/
def State.raises (k : Fault) (changed : List Loc) (s t : State) : Prop :=
  t.fault = some k ∧ t.running = false ∧ State.sameBut (.fault :: .running :: changed) s t

/-- The flags ALU instructions write; Overflow, with the model's draw counter, is a free value (10_state.md R30). -/
def aluFlags : List Loc := [.flagZ, .flagC, .flagN, .flagO, .draws]

/-- The code of an 8-bit register in a register-pair byte and in the per-register opcode blocks
(30_encoding.md R72, R73). -/
def codeOf : Reg8 → RegCode
  | .a => 0
  | .b => 1
  | .c => 2
  | .d => 3
  | .e => 4
  | .f => 5

/-- The octet k places after pc, modulo 2^16. -/
def State.octetAt (s : State) (k : Nat) : Byte := Memory.read s.mem (s.pc + BitVec.ofNat 16 k).toNat

end Sys2Proof.Machine
end

