-- ==== Sys2Proof/Certificates/Slice0/Obligations.lean ====
section
/-!
DEFINITION. The statements for the provers. Before each family's statement stands the predicate it says of each of its
instructions; the statement names every instruction it speaks of, with its opcode.

`State.completes changed s t` says that the instruction completed and that everything but `changed` and the two counters
is as before: every other register, flag, byte of memory and field. `State.raises k changed s t` says that it stopped
with the fault `k` recorded, and the same of everything but `changed`, the record and the run flag. `exec` runs with pc
already at the address after the instruction (40_control.md R91). Nothing is said of the value Overflow takes.
-/

open Sys2Proof Sys2Proof.Machine

namespace Sys2Proof.Machine

/-! ### Predicates of the families -/

/-- The octets `ops` are the encoding of `i`: the decoder reads `i` from them, whatever follows. -/
def IsEncodedAs (i : Instr) (ops : List Byte) : Prop := ∀ rest, decode (ops ++ rest) = .ok (i, rest)

/-- A load-class write of an 8-bit register with no access that could fault. -/
def Loads8 (s : State) (i : Instr) (r : Reg8) (v : Byte) : Prop :=
  ∃ t, exec i s = .next t ∧ State.completes [.reg8 r, .flagZ] s t ∧
    t.get8 r = v ∧ t.flags.z = decide (v.toNat = 0)

/-- A load-class write of DA or DB with no access that could fault: Zero is tested on all 16 bits. -/
def LoadsPair (s : State) (i : Instr) (q : Reg16) (v : Word) : Prop :=
  ∃ t, exec i s = .next t ∧ State.completes [.reg16 q, .flagZ] s t ∧
    t.get16 q = v ∧ t.flags.z = decide (v.toNat = 0)

/-- A write of an index pointer with no access that could fault: no flag changes. -/
def LoadsPointer (s : State) (i : Instr) (p : Reg16) (v : Word) : Prop :=
  ∃ t, exec i s = .next t ∧ State.completes [.reg16 p] s t ∧ t.get16 p = v

/-- A load of an 8-bit register from the byte at `a`. -/
def LoadsByteAt (s : State) (i : Instr) (r : Reg8) (a : Word) : Prop :=
  (a.toNat < s.config.memSize → Loads8 s i r (Memory.read s.mem a.toNat)) ∧
  (s.config.memSize ≤ a.toNat → ∃ t, exec i s = .next t ∧ State.raises (.addressOutOfRange a.toNat) [] s t)

/-- A load of the word at `a`, low octet at `a`, with `P v` for the word `v` loaded; a + 1 is not wrapped. -/
def LoadsWordAt (s : State) (i : Instr) (a : Word) (P : Word → Prop) : Prop :=
  (a.toNat + 1 < s.config.memSize → ∃ v : Word,
    v.toNat = (Memory.read s.mem a.toNat).toNat + 256 * (Memory.read s.mem (a.toNat + 1)).toNat ∧ P v) ∧
  (s.config.memSize ≤ a.toNat → ∃ t, exec i s = .next t ∧ State.raises (.addressOutOfRange a.toNat) [] s t) ∧
  (a.toNat < s.config.memSize → s.config.memSize ≤ a.toNat + 1 →
    ∃ t, exec i s = .next t ∧ State.raises (.addressOutOfRange (a.toNat + 1)) [] s t)

/-- An ALU instruction that writes the 8-bit register `dst`: its value, Carry, and Zero and bit 7 of the value. -/
def Computes8 (s : State) (i : Instr) (dst : Reg8) (v : Byte) (carry : Bool) : Prop :=
  ∃ t, exec i s = .next t ∧ State.completes (.reg8 dst :: aluFlags) s t ∧
    t.get8 dst = v ∧ t.flags.c = carry ∧ t.flags.z = decide (v.toNat = 0) ∧ t.flags.n = v.getLsbD 7

/-- An ALU instruction that writes DA or DB: its value, Carry, and Zero and bit 15 of the value. -/
def Computes16 (s : State) (i : Instr) (dst : Reg16) (v : Word) (carry : Bool) : Prop :=
  ∃ t, exec i s = .next t ∧ State.completes (.reg16 dst :: aluFlags) s t ∧
    t.get16 dst = v ∧ t.flags.c = carry ∧ t.flags.z = decide (v.toNat = 0) ∧ t.flags.n = v.getLsbD 15

/-- A compare of two values of width w: no register changes; Zero when they are equal, Carry when the first is below the
second, Negative from the top bit of the difference modulo 2^w. -/
def Compares (s : State) (i : Instr) {w : Nat} (x y : BitVec w) : Prop :=
  ∃ t, exec i s = .next t ∧ State.completes aluFlags s t ∧
    t.flags.z = decide (x = y) ∧ t.flags.c = decide (x.toNat < y.toNat) ∧
    t.flags.n = decide (2 ^ (w - 1) ≤ (((x.toNat : Int) - y.toNat) % 2 ^ w))

/-- A register-pair instruction with a field of 6 to 15 raises InvalidRegisterIdentifier with nothing else changed, the
destination field first. -/
def ChecksPair (s : State) (mk : RegCode → RegCode → Instr) : Prop :=
  ∀ dst src : RegCode,
    (6 ≤ dst.toNat → ∃ t, exec (mk dst src) s = .next t ∧ State.raises (.invalidRegisterIdentifier dst) [] s t) ∧
    (dst.toNat ≤ 5 → 6 ≤ src.toNat →
      ∃ t, exec (mk dst src) s = .next t ∧ State.raises (.invalidRegisterIdentifier src) [] s t)

/-- A jump: pc <- target when taken, and nothing else. -/
def Jumps (s : State) (i : Instr) (taken : Bool) (target : Word) : Prop :=
  ∃ t, exec i s = .next t ∧ State.completes [.reg16 .pc] s t ∧ t.pc = if taken then target else s.pc

/-- A store of one byte at `a`. -/
def StoresByteAt (s : State) (i : Instr) (a : Nat) (v : Byte) : Prop :=
  (a < s.config.memSize → ∃ t, exec i s = .next t ∧ State.completes [.byte a] s t ∧ Memory.read t.mem a = v) ∧
  (s.config.memSize ≤ a → ∃ t, exec i s = .next t ∧ State.raises (.addressOutOfRange a) [] s t)

/-- A store of the word `v` at `a`, low octet first; a + 1 is not wrapped, and when it alone is outside memory the byte
at `a` is the old one or the new one. -/
def StoresWordAt (s : State) (i : Instr) (a : Word) (v : Word) : Prop :=
  (a.toNat + 1 < s.config.memSize → ∃ t, exec i s = .next t ∧
    State.completes [.byte a.toNat, .byte (a.toNat + 1)] s t ∧
    (Memory.read t.mem a.toNat).toNat = v.toNat % 256 ∧
    (Memory.read t.mem (a.toNat + 1)).toNat = v.toNat / 256) ∧
  (s.config.memSize ≤ a.toNat → ∃ t, exec i s = .next t ∧ State.raises (.addressOutOfRange a.toNat) [] s t) ∧
  (a.toNat < s.config.memSize → s.config.memSize ≤ a.toNat + 1 → ∃ t, exec i s = .next t ∧
    State.raises (.addressOutOfRange (a.toNat + 1)) [.byte a.toNat, .draws] s t ∧
    (Memory.read t.mem a.toNat = Memory.read s.mem a.toNat ∨
      (Memory.read t.mem a.toNat).toNat = v.toNat % 256))

/-- A push of one octet: written at SP, then SP - 1 modulo 2^16. -/
def PushesOctet (s : State) (i : Instr) (v : Byte) : Prop :=
  (s.sp.toNat < s.config.memSize → ∃ t, exec i s = .next t ∧
    State.completes [.byte s.sp.toNat, .reg16 .sp] s t ∧ Memory.read t.mem s.sp.toNat = v ∧ t.sp = s.sp - 1#16) ∧
  (s.config.memSize ≤ s.sp.toNat → ∃ t, exec i s = .next t ∧
    State.raises (.addressOutOfRange s.sp.toNat) [] s t)

/-- A push of the word `v`: the high octet at SP, the low octet at SP - 1, each modulo 2^16, and SP - 2; `jump` is where
pc goes when both bytes are in memory (a CALL), the pc itself for a PUSH. A fault on the second byte leaves the first
byte written and SP - 1. -/
def PushesWord (s : State) (i : Instr) (v : Word) (jump : Word) : Prop :=
  (s.sp.toNat < s.config.memSize → (s.sp - 1#16).toNat < s.config.memSize → ∃ t, exec i s = .next t ∧
    State.completes [.byte s.sp.toNat, .byte (s.sp - 1#16).toNat, .reg16 .sp, .reg16 .pc] s t ∧
    (Memory.read t.mem s.sp.toNat).toNat = v.toNat / 256 ∧
    (Memory.read t.mem (s.sp - 1#16).toNat).toNat = v.toNat % 256 ∧ t.sp = s.sp - 2#16 ∧ t.pc = jump) ∧
  (s.config.memSize ≤ s.sp.toNat → ∃ t, exec i s = .next t ∧
    State.raises (.addressOutOfRange s.sp.toNat) [] s t) ∧
  (s.sp.toNat < s.config.memSize → s.config.memSize ≤ (s.sp - 1#16).toNat → ∃ t, exec i s = .next t ∧
    State.raises (.addressOutOfRange (s.sp - 1#16).toNat) [.byte s.sp.toNat, .reg16 .sp] s t ∧
    (Memory.read t.mem s.sp.toNat).toNat = v.toNat / 256 ∧ t.sp = s.sp - 1#16)

/-- A pop of the octet at SP + 1 into an 8-bit register; SP keeps the increment when the read faults. -/
def PopsOctet (s : State) (i : Instr) (r : Reg8) : Prop :=
  ((s.sp + 1#16).toNat < s.config.memSize → ∃ t, exec i s = .next t ∧
    State.completes [.reg8 r, .flagZ, .reg16 .sp] s t ∧ t.sp = s.sp + 1#16 ∧
    t.get8 r = Memory.read s.mem (s.sp + 1#16).toNat ∧ t.flags.z = decide ((t.get8 r).toNat = 0)) ∧
  (s.config.memSize ≤ (s.sp + 1#16).toNat → ∃ t, exec i s = .next t ∧
    State.raises (.addressOutOfRange (s.sp + 1#16).toNat) [.reg16 .sp] s t ∧ t.sp = s.sp + 1#16)

/-- A pop of the word at SP + 1, low octet there and high octet at SP + 2, into the 16-bit register `q`, with the other
changes allowed listed; SP keeps the increments made before a read that faults. -/
def PopsWord (s : State) (i : Instr) (q : Reg16) (changed : List Loc) : Prop :=
  ((s.sp + 1#16).toNat < s.config.memSize → (s.sp + 2#16).toNat < s.config.memSize → ∃ t, exec i s = .next t ∧
    State.completes (.reg16 q :: .reg16 .sp :: changed) s t ∧ t.sp = s.sp + 2#16 ∧
    (t.get16 q).toNat = (Memory.read s.mem (s.sp + 1#16).toNat).toNat +
      256 * (Memory.read s.mem (s.sp + 2#16).toNat).toNat ∧
    (.flagZ ∈ changed → t.flags.z = decide ((t.get16 q).toNat = 0))) ∧
  (s.config.memSize ≤ (s.sp + 1#16).toNat → ∃ t, exec i s = .next t ∧
    State.raises (.addressOutOfRange (s.sp + 1#16).toNat) [.reg16 .sp] s t ∧ t.sp = s.sp + 1#16) ∧
  ((s.sp + 1#16).toNat < s.config.memSize → s.config.memSize ≤ (s.sp + 2#16).toNat → ∃ t, exec i s = .next t ∧
    State.raises (.addressOutOfRange (s.sp + 2#16).toNat) [.reg16 .sp] s t ∧ t.sp = s.sp + 2#16)

/-- An indexed load of A from the effective address `ea`, which leaves the pointer `p` at `after`; a fault leaves A, Zero
and the pointer unchanged. -/
def LoadsIndexed (s : State) (i : Instr) (p : Reg16) (ea : Nat) (after : Word) : Prop :=
  (ea < s.config.memSize → ∃ t, exec i s = .next t ∧ State.completes [.reg8 .a, .flagZ, .reg16 p] s t ∧
    t.a = Memory.read s.mem ea ∧ t.flags.z = decide (t.a.toNat = 0) ∧ t.get16 p = after) ∧
  (s.config.memSize ≤ ea → ∃ t, exec i s = .next t ∧ State.raises (.addressOutOfRange ea) [] s t)

/-- An indexed store of A at the effective address `ea`, which leaves the pointer `p` at `after`. -/
def StoresIndexed (s : State) (i : Instr) (p : Reg16) (ea : Nat) (after : Word) : Prop :=
  (ea < s.config.memSize → ∃ t, exec i s = .next t ∧ State.completes [.byte ea, .reg16 p] s t ∧
    Memory.read t.mem ea = s.a ∧ t.get16 p = after) ∧
  (s.config.memSize ≤ ea → ∃ t, exec i s = .next t ∧ State.raises (.addressOutOfRange ea) [] s t)

/-- A swap of two 8-bit registers; no flag changes. -/
def Swaps8 (s : State) (i : Instr) (x y : Reg8) : Prop :=
  ∃ t, exec i s = .next t ∧ State.completes [.reg8 x, .reg8 y] s t ∧ t.get8 x = s.get8 y ∧ t.get8 y = s.get8 x

/-- A swap of two 16-bit registers; no flag changes. -/
def Swaps16 (s : State) (i : Instr) (x y : Reg16) : Prop :=
  ∃ t, exec i s = .next t ∧ State.completes [.reg16 x, .reg16 y] s t ∧ t.get16 x = s.get16 y ∧ t.get16 y = s.get16 x

/-- The state a SYS_HANDLER leaves: the registers, flags and bytes of memory it left, but for pc where it does not
document that it writes pc; the clock mode, the parameters and the draw counter are as before. -/
def State.leftByHandler (h : SysHandler) (u : ArchState) (s t : State) : Prop :=
  t.arch = { u with pc := if h.writesPc then u.pc else s.pc, mem := t.mem } ∧
    (∀ a < s.config.memSize, Memory.read t.mem a = Memory.read u.mem a) ∧
    t.mode = s.mode ∧ t.config = s.config ∧ t.sysHandler = s.sysHandler ∧ t.draws = s.draws

/-- The instructions that store one byte, each with the register it stores and the address it stores it at. -/
def byteStores (a : Word) (d : Byte) (s : State) : List (Instr × Reg8 × Word) :=
  [(.staAbs a, .a, a), (.stbAbs a, .b, a), (.stcAbs a, .c, a), (.stdAbs a, .d, a), (.steAbs a, .e, a),
   (.stfAbs a, .f, a), (.staIdx, .a, s.idx), (.staIdy, .a, s.idy), (.staIdxInc, .a, s.idx), (.staIdyInc, .a, s.idy),
   (.staIdxDec, .a, s.idx), (.staIdyDec, .a, s.idy), (.staIdxDisp d, .a, BitVec.ofNat 16 (displacedAddr .idx d s)),
   (.staIdyDisp d, .a, BitVec.ofNat 16 (displacedAddr .idy d s)), (.pushA, .a, s.sp), (.pushB, .b, s.sp),
   (.pushC, .c, s.sp), (.pushD, .d, s.sp), (.pushE, .e, s.sp), (.pushF, .f, s.sp)]

/-! ### Sequences on the stack -/

/-- One value on the stack. -/
inductive StackItem where
  | octet (v : Byte)
  | word (v : Word)
deriving DecidableEq, Repr

/-- How many bytes of the stack a value takes (10_state.md R25). -/
def StackItem.size : StackItem → Nat
  | .octet _ => 1
  | .word _ => 2

/-- Push the values in order, by the primitives of 44_stores_stack.md R164 and R166. -/
def pushAll : List StackItem → State → Effect Unit
  | [], s => .done () s
  | .octet v :: items, s => (push8 v s).andThen fun _ s1 => pushAll items s1
  | .word v :: items, s => (push16 v s).andThen fun _ s1 => pushAll items s1

/-- Pop values of the widths given, in order, by the primitives of 44_stores_stack.md R165 and R167. -/
def popAll : List StackItem → State → Effect (List StackItem)
  | [], s => .done [] s
  | .octet _ :: items, s =>
    (pop8 s).andThen fun v s1 => (popAll items s1).andThen fun vs s2 => .done (.octet v :: vs) s2
  | .word _ :: items, s =>
    (pop16 s).andThen fun v s1 => (popAll items s1).andThen fun vs s2 => .done (.word v :: vs) s2

end Sys2Proof.Machine

/-! ### Encoding -/

/-- A few words written out from 30_encoding.md R71, R73, R74 and R77 decode to the instructions they stand for. Not
of a rule alone: the opcode values are the spec's own choice (D1, D2). -/
def Obligations.SampleWordsDecode : Prop :=
  decode [0x08, 0x32] = .ok (.ldaImm 0x32, []) ∧ decode [0x60, 0x01] = .ok (.addReg 0 1, []) ∧
  decode [0x66, 0x20] = .ok (.movReg 2 0, []) ∧ decode [0x5E, 0x34, 0x12] = .ok (.cmpDaImm 0x1234, []) ∧
  decode [0x88, 0x00, 0x03] = .ok (.call 0x0300, []) ∧ decode [0x8A, 0xFC] = .ok (.jr 0xFC, []) ∧
  decode [0x93, 0x10, 0x00] = .ok (.ldiyAbs 0x0010, []) ∧ decode [0xAB] = .ok (.staIdyInc, []) ∧
  decode [0xFD] = .error (.unknownOpcode 0xFD)

/-- Decoding the encoding of an instruction gives it back, whatever octets follow: for EVERY instruction, with every
operand at every value, a register-pair byte with a bad field too (30_encoding.md R70, R71, R77). The same under every
other OPCODE_MAP (00_scope.md R7), for the instructions it numbers. Not of a rule alone: the opcode values are the
spec's own choice (D1, D2); that another numbering is a list of pairs is log entry 15. -/
def Obligations.DecodeReadsBackEncode : Prop :=
  ∀ (i : Instr) (rest : List Byte), decode (encode i ++ rest) = .ok (i, rest) ∧
    ∀ (map : Option OpcodeNumbering) (octets : List Byte), map.all OpcodeNumbering.wf = true →
      encodeBy map i = some octets → decodeBy map (octets ++ rest) = .ok (i, rest)

/-- Every string of octets that decodes is the encoding of the instruction it decodes to, with the octets not consumed
after it: every word has exactly one meaning (30_encoding.md R80). Not of a rule alone: the opcode values are the
spec's own choice (D1, D2). -/
def Obligations.EncodeReadsBackDecode : Prop :=
  ∀ (octets rest : List Byte) (i : Instr), decode octets = .ok (i, rest) → encode i ++ rest = octets

/-- The unassigned opcodes of the spec's own map are exactly those of 30_encoding.md R78; under any OPCODE_MAP the
fetch of an unassigned opcode ends the step with UnknownInstruction naming it, pc one past it, and nothing else
changed, and no other step of a core with no fault recorded ends so, a SYS under a supplied SYS_HANDLER apart, which
may raise what it likes (40_control.md R96, R94). Not of a rule alone: the list of unassigned opcodes is the spec's
own choice (D1), the fault record too (D19); that a handler may raise any fault is log entry 8. -/
def Obligations.UnassignedOpcodesRaise : Prop :=
  (∀ op : Byte, decode [op] = .error (.unknownOpcode op) ↔
    (0x03 ≤ op.toNat ∧ op.toNat ≤ 0x07) ∨ (0x36 ≤ op.toNat ∧ op.toNat ≤ 0x37) ∨
    (0x3E ≤ op.toNat ∧ op.toNat ≤ 0x3F) ∨ (0x46 ≤ op.toNat ∧ op.toNat ≤ 0x47) ∨
    (0x6E ≤ op.toNat ∧ op.toNat ≤ 0x6F) ∨ (0x7E ≤ op.toNat ∧ op.toNat ≤ 0x7F) ∨ op.toNat = 0x87 ∨
    (0x8E ≤ op.toNat ∧ op.toNat ≤ 0x8F) ∨ (0x9A ≤ op.toNat ∧ op.toNat ≤ 0x9F) ∨ 0xB0 ≤ op.toNat) ∧
  ∀ s : State, s.running = true →
    (s.pc.toNat < s.config.memSize →
      decodeBy s.config.opcodeMap [s.octetAt 0] = .error (.unknownOpcode (s.octetAt 0)) →
      ∃ t, step s = .next t ∧ State.raises (.unknownInstruction (s.octetAt 0)) [.reg16 .pc] s t ∧ t.pc = s.pc + 1#16) ∧
    ∀ t k, s.fault = none → ¬ s.runsHandler → step s = .next t → t.fault = some (.unknownInstruction k) →
      k = s.octetAt 0 ∧ s.pc.toNat < s.config.memSize ∧
        decodeBy s.config.opcodeMap [k] = .error (.unknownOpcode k)

/-! ### The step -/

/-- A step runs the decoded instruction: when the core is Running and the octets at pc decode to `i` by the machine's
OPCODE_MAP, all of them in memory, the step is `exec i` with pc moved past them modulo 2^16 and nothing else changed
(40_control.md R90, R91). Not of a rule alone: the wrap of pc modulo 2^16 is the spec's own choice (D16), the opcode
values too (D1). -/
def Obligations.StepRunsDecodedInstruction : Prop :=
  ∀ (s : State) (i : Instr) (rest : List Byte), s.running = true →
    decodeBy s.config.opcodeMap [s.octetAt 0, s.octetAt 1, s.octetAt 2] = .ok (i, rest) →
    (∀ k < i.format.octets, (s.pc + BitVec.ofNat 16 k).toNat < s.config.memSize) →
    step s = exec i (s.set16 .pc (s.pc + BitVec.ofNat 16 i.format.octets))

/-- A step while Halted or Faulted does nothing (40_control.md R95). Not of a rule alone: that a Halted step answers
the same state is log entry 9 (the spec's D28). -/
def Obligations.HaltedStepDoesNothing : Prop :=
  ∀ s : State, s.running = false → step s = .next s

/-- A fetch fault records the address of the octet that failed and leaves pc there, with nothing else changed: on the
opcode, on the second octet of an instruction that has one, on the third octet (40_control.md R90, 60_exceptions.md
R204, R206). Not of a rule alone: the fault record is the spec's own choice (D19), the order of the checks too (D30).
-/
def Obligations.FetchFaultsStopAtTheFailingOctet : Prop :=
  ∀ s : State, s.running = true →
    (s.config.memSize ≤ s.pc.toNat →
      ∃ t, step s = .next t ∧ State.raises (.addressOutOfRange s.pc.toNat) [] s t) ∧
    ∀ row, rowOf s.config.opcodeMap (s.octetAt 0) = some row → s.pc.toNat < s.config.memSize →
      (2 ≤ row.format.octets → s.config.memSize ≤ (s.pc + 1#16).toNat →
        ∃ t, step s = .next t ∧ State.raises (.addressOutOfRange (s.pc + 1#16).toNat) [.reg16 .pc] s t ∧
          t.pc = s.pc + 1#16) ∧
      (3 ≤ row.format.octets → (s.pc + 1#16).toNat < s.config.memSize → s.config.memSize ≤ (s.pc + 2#16).toNat →
        ∃ t, step s = .next t ∧ State.raises (.addressOutOfRange (s.pc + 2#16).toNat) [.reg16 .pc] s t ∧
          t.pc = s.pc + 2#16)

/-! ### Invariants and whole-machine rules -/

/-- Every step keeps the invariant, from every state that has it. Not of a rule alone: the canonical form of memory
(log entry 4), unbounded counters (13) and faults as next states (7) are the model's choices. -/
def Obligations.StepKeepsInvariant : Prop :=
  ∀ s t : State, s.Inv → step s = .next t → t.Inv

/-- The state after reset has the invariant. Not of a rule alone: it speaks of the model's choices of log entries 1,
3, 4 and 13. -/
def Obligations.ResetHasInvariant : Prop := State.reset.Inv

/-- Whatever the host does with a core it constructs over any launch memory, with parameters in their ranges and any
SYS_HANDLER, the invariant holds at every boundary between two operations (60_exceptions.md R217, R220, R221). Not of
a rule alone: it speaks of the model's choices of log entries 4, 7, 13, 8, 16 and 17. -/
def Obligations.EveryHostRunKeepsInvariant : Prop :=
  ∀ (config : Config) (launch : Memory) (handler : Option SysHandler) (ops : List HostOp), config.wf = true →
    ∀ t ∈ boundaries ops (construct config launch handler), t.Inv

/-- No step ends in a fault outcome (a fault is a state the core enters), and the one refusal is that of a SYS, with
no SYS_HANDLER or one that gives the call no meaning, in the state that has fetched it: pc two past it and nothing
else changed (60_exceptions.md R204, 40_control.md R94). Not of a rule alone: that a fault is a next state is the
model's choice (log entry 7), as is what a refusal carries (8). -/
def Obligations.OnlySysStopsTheModel : Prop :=
  ∀ s : State, (∀ k, step s ≠ .fault k) ∧
    ∀ r, step s = .refused r →
      r = .sysUnmodelled (s.octetAt 1) (s.set16 .pc (s.pc + 2#16)) ∧
      decodeBy s.config.opcodeMap [s.octetAt 0, s.octetAt 1] = .ok (.sys (s.octetAt 1), []) ∧
      (s.config.opcodeMap = none → s.octetAt 0 = 0x02) ∧
      ∀ h, s.sysHandler = some h → h.reply (s.octetAt 1) (s.set16 .pc (s.pc + 2#16)).arch = .refuses

/-- A Faulted core stays Faulted with its record, whatever the host does but Reset, which leaves it Halted with no
fault (60_exceptions.md R204, R205, R218). Not of a rule alone: the faulted state is the spec's own choice (D19). -/
def Obligations.OnlyResetLeavesFaulted : Prop :=
  ∀ s : State, s.faulted →
    (∀ op t, op ≠ .reset → hostApply op s = .done t → t.faulted ∧ t.fault = s.fault) ∧ (hostReset s).halted

/-- The run-state transitions of an instruction (60_exceptions.md R218): from Running, HALT leads to Halted, a fault
to Faulted, and anything else to Running. Not of a rule alone: the faulted state is the spec's own choice (D19). -/
def Obligations.RunStateTransitions : Prop :=
  ∀ (i : Instr) (s t : State), s.running = true → s.fault = none → exec i s = .next t →
    (i = .halt ∧ t.halted) ∨ (i ≠ .halt ∧ t.faulted) ∨ (i ≠ .halt ∧ t.running = true ∧ t.fault = none)

/-- Only jumps, calls and returns write pc, and a SYS whose supplied SYS_HANDLER documents that it does (40_control.md
R91, R94). Not of a rule alone: R91 carries the spec's own choice D16; this states one sentence of it; the handler is
log entry 8. -/
def Obligations.OnlyControlTransfersWritePc : Prop :=
  ∀ (i : Instr) (s t : State), exec i s = .next t → t.pc ≠ s.pc →
    (∃ a, i = .jmp a ∨ i = .jz a ∨ i = .jnz a ∨ i = .jc a ∨ i = .jnc a ∨ i = .jn a ∨ i = .jnn a ∨ i = .call a) ∨
    i = .ret ∨ (∃ d, i = .jr d ∨ i = .jrz d ∨ i = .jrnz d ∨ i = .jrc d) ∨
    ∃ n h, i = .sys n ∧ s.sysHandler = some h ∧ h.writesPc = true

/-- Only pushes, pops, CALL and RET move SP, and a SYS under a supplied SYS_HANDLER (10_state.md R37). Not of a rule
alone: R37 carries the spec's own choices D8 to D10; this states the SP entries of its table; the handler is log entry
8. -/
def Obligations.OnlyStackInstructionsMoveSp : Prop :=
  ∀ (i : Instr) (s t : State), exec i s = .next t → t.sp ≠ s.sp →
    i ∈ [.pushA, .pushB, .pushC, .pushD, .pushE, .pushF, .pushDa, .pushDb,
         .popA, .popB, .popC, .popD, .popE, .popF, .popDa, .popDb, .ret] ∨ (∃ a, i = .call a) ∨
    ∃ n h, i = .sys n ∧ s.sysHandler = some h

/-- No instruction reads Overflow (10_state.md R31): a step from a state with another Overflow gives the same state
but for Overflow, where it runs no supplied SYS_HANDLER, which may read any flag. Not of a rule alone: R31 is marked
derived by the spec; the free value of Overflow is log entry 5, the handler 8. -/
def Obligations.OverflowIsNeverRead : Prop :=
  ∀ (s t : State) (o : Bool), ¬ s.runsHandler → step s = .next t →
    ∃ u, step { s with flags := { s.flags with o := o } } = .next u ∧ State.sameBut [.flagO] t u

/-- No instruction reads the clock mode or a counter (60_exceptions.md R213, R219, R225; 70_reset_and_hazards.md
R240): a step from a state with another mode and other counters gives the same state but for these; the mode stays,
and the counters move by the same amounts. Not of a rule alone: that the mode and the counters are fields of State is
log entries 11 and 13. -/
def Obligations.TimeIsInvisible : Prop :=
  ∀ (s t : State) (mode : Option ClockMode) (n c : Nat), step s = .next t →
    ∃ u, step { s with mode := mode, instructionsExecuted := n, cyclesExecuted := c } = .next u ∧
      State.sameBut [.mode, .instructionsExecuted, .cyclesExecuted] t u ∧ u.mode = mode ∧
      u.instructionsExecuted + s.instructionsExecuted = t.instructionsExecuted + n ∧
      u.cyclesExecuted + s.cyclesExecuted = t.cyclesExecuted + c

/-! ### Memory and the stack -/

/-- A word written inside memory reads back, low octet at the lower address, and no other byte changes (20_memory.md
R56). Not of a rule alone: this states the data-word half of R56. -/
def Obligations.WordRoundTrip : Prop :=
  ∀ (a : Nat) (v : Word) (s : State), a + 1 < s.config.memSize →
    ∃ t, writeWord a v s = .done () t ∧ readWord a t = .done v t ∧
      (Memory.read t.mem a).toNat = v.toNat % 256 ∧ (Memory.read t.mem (a + 1)).toNat = v.toNat / 256 ∧
      State.sameBut [.byte a, .byte (a + 1)] s t

/-- Values of both widths, pushed in any mix and popped in reverse order, come back, and so does SP, as long as the
stack bytes are inside memory and do not overlap (44_stores_stack.md R162). Not of a rule alone: R162 is marked
derived by the spec; the stack convention is the spec's own choice (D15). -/
def Obligations.StackRestoresEveryValue : Prop :=
  ∀ (items : List StackItem) (s : State) (n : Nat), n = (items.map StackItem.size).sum → n ≤ 65536 →
    (∀ k < n, (s.sp - BitVec.ofNat 16 k).toNat < s.config.memSize) →
    ∃ t u, pushAll items s = .done () t ∧ t.sp = s.sp - BitVec.ofNat 16 n ∧
      popAll items.reverse t = .done items.reverse u ∧ u.sp = s.sp

/-- CALL and then RET, from wherever the call led, returns to the address after the CALL with SP as before it, when
the two stack bytes are inside memory and not overwritten (43_jumps_calls.md R148). Not of a rule alone: this states
one corner case of R148; the stack convention is the spec's own choice (D15). -/
def Obligations.CallThenRetReturns : Prop :=
  ∀ (s : State) (a pc : Word), s.sp.toNat < s.config.memSize → (s.sp - 1#16).toNat < s.config.memSize →
    ∃ t u, exec (.call a) s = .next t ∧ t.pc = a ∧ exec .ret (t.set16 .pc pc) = .next u ∧
      u.pc = s.pc ∧ u.sp = s.sp

/-- What any instruction leaves in memory is what the very next fetch reads, at every address; so the byte stored by
ST r,[a], by an indexed store and by PUSH r, and the word stored by ST q,[a], is fetched from where it was stored
(20_memory.md R68, 70_reset_and_hazards.md R236). Not of a rule alone: R68 and R236 carry the spec's own choice D22;
this states what they say of stores by instructions. -/
def Obligations.StoreIsSeenByTheNextFetch : Prop :=
  ∀ (s : State) (a : Word) (d : Byte),
    (∀ i t, exec i s = .next t → a.toNat < s.config.memSize →
      fetch8 (t.set16 .pc a) = .done (Memory.read t.mem a.toNat) (t.set16 .pc (a + 1#16))) ∧
    (∀ i r x, (i, r, x) ∈ byteStores a d s → x.toNat < s.config.memSize →
      ∃ t, exec i s = .next t ∧ fetch8 (t.set16 .pc x) = .done (s.get8 r) (t.set16 .pc (x + 1#16))) ∧
    (s.config.wf = true → a.toNat + 1 < s.config.memSize →
      (∃ t, exec (.stdaAbs a) s = .next t ∧ fetch16 (t.set16 .pc a) = .done s.da (t.set16 .pc (a + 2#16))) ∧
      ∃ t, exec (.stdbAbs a) s = .next t ∧ fetch16 (t.set16 .pc a) = .done s.db (t.set16 .pc (a + 2#16)))

/-! ### The host interface -/

/-- What Reset leaves (70_reset_and_hazards.md R230, R232, 10_state.md R38): every register 0 but pc, which is
BOOT_ADDR, and sp, which is MEM_SIZE - 1; flags, run flag, record and counters cleared; no clock mode; memory, the
parameters and the draw counter unchanged. Not of a rule alone: R230 carries the spec's own choices D13, D15, D18,
D19, D24 and D31; that the clock mode has no value after Reset is log entry 11; that the draw counter and the
parameters stay is the model's (log entries 2, 5, 8). -/
def Obligations.ResetLeaves : Prop :=
  ∀ s : State, s.config.wf = true →
    (∀ r, (hostReset s).get8 r = 0) ∧
    (∀ q, q ≠ .pc → q ≠ .sp → (hostReset s).get16 q = 0) ∧
    (hostReset s).pc = s.config.bootAddr ∧ (hostReset s).sp.toNat = s.config.memSize - 1 ∧
    (hostReset s).flags = { z := false, c := false, o := false, n := false } ∧
    (hostReset s).running = false ∧ (hostReset s).fault = none ∧
    (hostReset s).instructionsExecuted = 0 ∧ (hostReset s).cyclesExecuted = 0 ∧ (hostReset s).mode = none ∧
    (hostReset s).mem = s.mem ∧ (hostReset s).config = s.config ∧ (hostReset s).sysHandler = s.sysHandler ∧
    (hostReset s).draws = s.draws

/-- LoadProgram fails with ProgramTooLarge when the program does not fit; else byte i is at origin + i, and nothing else
changes; its origin defaults to 0 (20_memory.md R66). Clear makes every byte 0x00 and changes nothing else (R67). -/
def Obligations.LoadProgramAndClear : Prop :=
  ∀ (bytes : List Byte) (origin : Nat) (s : State),
    (s.config.memSize < origin + bytes.length → loadProgram bytes s origin = .error .programTooLarge) ∧
    (origin + bytes.length ≤ s.config.memSize → ∃ t, loadProgram bytes s origin = .ok t ∧
      (∀ i v, bytes[i]? = some v → Memory.read t.mem (origin + i) = v) ∧
      (∀ a, a < origin ∨ origin + bytes.length ≤ a → Memory.read t.mem a = Memory.read s.mem a) ∧
      ∀ l, (∀ a, l ≠ .byte a) → s.agreeAt t l) ∧
    loadProgram bytes s = loadProgram bytes s 0 ∧
    (∀ a, Memory.read (clearMemory s).mem a = 0x00#8) ∧ ∀ l, (∀ a, l ≠ .byte a) → s.agreeAt (clearMemory s) l

/-- Start on a core with no fault makes it Running in the given mode and changes nothing else, and has no effect on
one with a fault recorded; Stop clears the run flag, changes nothing else, and stopping twice is stopping once
(60_exceptions.md R222, R223). Not of a rule alone: R222 carries the spec's own choices D19 and D33; this states the
core's part of R222 and R223. -/
def Obligations.StartAndStop : Prop :=
  ∀ (mode : ClockMode) (s : State),
    (s.fault = none → (start mode s).running = true ∧ (start mode s).mode = some mode ∧
      State.sameBut [.running, .mode] s (start mode s)) ∧
    (s.fault ≠ none → start mode s = s) ∧
    (stop s).running = false ∧ State.sameBut [.running] s (stop s) ∧ stop (stop s) = stop s

/-- The register accessors (60_exceptions.md R227): a set of A-F writes v mod 2^8 and Zero alone; of DA or DB, v mod
2^16 and Zero alone; of PC, SP, IDX or IDY, v mod 2^16 and no flag; a get reads the register; any other identifier
fails and names itself. Not of a rule alone: R227 carries the spec's own choices D8 and D17; the identifiers are log
entry 14. -/
def Obligations.HostRegisterAccessors : Prop :=
  ∀ (v : Nat) (s : State),
    (∀ id r, (id, r) ∈ [("A", Reg8.a), ("B", .b), ("C", .c), ("D", .d), ("E", .e), ("F", .f)] →
      getRegister id s = .ok (s.get8 r) ∧ ∃ t, setRegister id v s = .ok t ∧ State.sameBut [.reg8 r, .flagZ] s t ∧
        (t.get8 r).toNat = v % 2 ^ 8 ∧ t.flags.z = decide (v % 2 ^ 8 = 0)) ∧
    (∀ id q, (id, q) ∈ [("DA", Reg16.da), ("DB", .db)] →
      getRegister16 id s = .ok (s.get16 q) ∧ ∃ t, setRegister16 id v s = .ok t ∧
        State.sameBut [.reg16 q, .flagZ] s t ∧
        (t.get16 q).toNat = v % 2 ^ 16 ∧ t.flags.z = decide (v % 2 ^ 16 = 0)) ∧
    (∀ id q, (id, q) ∈ [("PC", Reg16.pc), ("SP", .sp), ("IDX", .idx), ("IDY", .idy)] →
      getRegister16 id s = .ok (s.get16 q) ∧ ∃ t, setRegister16 id v s = .ok t ∧ State.sameBut [.reg16 q] s t ∧
        (t.get16 q).toNat = v % 2 ^ 16) ∧
    (∀ id, id ∉ ["A", "B", "C", "D", "E", "F"] →
      getRegister id s = .error (.invalidRegisterIdentifier id) ∧
      setRegister id v s = .error (.invalidRegisterIdentifier id)) ∧
    ∀ id, id ∉ ["DA", "DB", "PC", "SP", "IDX", "IDY"] →
      getRegister16 id s = .error (.invalidRegisterIdentifier id) ∧
      setRegister16 id v s = .error (.invalidRegisterIdentifier id)

/-- Host memory accesses (60_exceptions.md R228): inside memory a byte or a word written reads back and no other byte
changes; an access outside it fails with the address that failed, the low byte checked first. Not of a rule alone:
this states the accesses of R228; that a failed word write changes nothing is R228. -/
def Obligations.HostMemoryAccess : Prop :=
  ∀ (a : Int) (v : Byte) (x : Word) (s : State),
    (0 ≤ a → a < s.config.memSize → hostReadByte a s = .ok (Memory.read s.mem a.toNat) ∧
      ∃ t, hostWriteByte a v s = .ok t ∧ Memory.read t.mem a.toNat = v ∧ State.sameBut [.byte a.toNat] s t) ∧
    (a < 0 ∨ s.config.memSize ≤ a → hostReadByte a s = .error (.addressOutOfRange a) ∧
      hostWriteByte a v s = .error (.addressOutOfRange a) ∧ hostReadWord a s = .error (.addressOutOfRange a) ∧
      hostWriteWord a x s = .error (.addressOutOfRange a)) ∧
    (0 ≤ a → a + 1 < s.config.memSize → ∃ t, hostWriteWord a x s = .ok t ∧ hostReadWord a t = .ok x ∧
      (Memory.read t.mem a.toNat).toNat = x.toNat % 256 ∧
      State.sameBut [.byte a.toNat, .byte (a.toNat + 1)] s t) ∧
    (0 ≤ a → a + 1 = s.config.memSize → hostReadWord a s = .error (.addressOutOfRange (a + 1)) ∧
      hostWriteWord a x s = .error (.addressOutOfRange (a + 1)))

/-- The packed status value (10_state.md R33). Not of a rule alone: the layout is the spec's own choice (D17). -/
def Obligations.StatusPacking : Prop :=
  ∀ g : Flags, (statusByte g).getLsbD 0 = g.z ∧ (statusByte g).getLsbD 1 = g.c ∧ (statusByte g).getLsbD 2 = g.o ∧
    (statusByte g).getLsbD 3 = g.n ∧ (statusByte g).toNat < 16

/-! ### Basic control -/

/-- NOP completes and changes nothing else; HALT completes and clears the run flag alone (40_control.md R92, R93). Not
of a rule alone: that pc moves past them is StepRunsDecodedInstruction; that a halted core does nothing is
HaltedStepDoesNothing. -/
def Obligations.NopAndHalt : Prop :=
  IsEncodedAs .nop [0x00] ∧ IsEncodedAs .halt [0x01] ∧ ∀ s : State,
    (∃ t, exec .nop s = .next t ∧ State.completes [] s t) ∧
    (∃ t, exec .halt s = .next t ∧ State.completes [.running] s t ∧ t.running = false)

/-- SYS n, with no SYS_HANDLER supplied, is refused as SysUnmodelled(n) in the state that has fetched it; under a
supplied handler it completes with what the handler leaves, raises what the handler raises, or is refused where the
handler gives the call no meaning; pc stays after the SYS unless the handler documents otherwise (40_control.md R94).
Not of a rule alone: the length of SYS is the spec's own choice (D11); what a refusal carries and how a handler is
held are log entry 8. -/
def Obligations.SysIsRefusedWithoutHandler : Prop :=
  ∀ (n : Byte) (s : State), IsEncodedAs (.sys n) [0x02, n] ∧
    (s.sysHandler = none → exec (.sys n) s = .refused (.sysUnmodelled n s)) ∧
    ∀ h, s.sysHandler = some h →
      (∀ u, h.reply n s.arch = .completes u → ∃ t, exec (.sys n) s = .next t ∧ State.leftByHandler h u s t ∧
        t.running = s.running ∧ t.fault = s.fault ∧
        t.instructionsExecuted = s.instructionsExecuted + 1 ∧ t.cyclesExecuted = s.cyclesExecuted + 1) ∧
      (∀ k u, h.reply n s.arch = .raises k u → ∃ t, exec (.sys n) s = .next t ∧ State.leftByHandler h u s t ∧
        t.running = false ∧ t.fault = some k ∧
        t.instructionsExecuted = s.instructionsExecuted ∧ t.cyclesExecuted = s.cyclesExecuted) ∧
      (h.reply n s.arch = .refuses → exec (.sys n) s = .refused (.sysUnmodelled n s))

/-! ### Loads -/

/-- LD r,#n (41_loads.md R100). Not of a rule alone: the Zero flag of loads is the spec's own choice (D8). -/
def Obligations.LoadImmediate8 : Prop :=
  ∀ (n : Byte) (s : State),
    (IsEncodedAs (.ldaImm n) [0x08, n] ∧ Loads8 s (.ldaImm n) .a n) ∧
    (IsEncodedAs (.ldbImm n) [0x09, n] ∧ Loads8 s (.ldbImm n) .b n) ∧
    (IsEncodedAs (.ldcImm n) [0x0A, n] ∧ Loads8 s (.ldcImm n) .c n) ∧
    (IsEncodedAs (.lddImm n) [0x0B, n] ∧ Loads8 s (.lddImm n) .d n) ∧
    (IsEncodedAs (.ldeImm n) [0x0C, n] ∧ Loads8 s (.ldeImm n) .e n) ∧
    (IsEncodedAs (.ldfImm n) [0x0D, n] ∧ Loads8 s (.ldfImm n) .f n)

/-- LD r,[a] (41_loads.md R101). Not of a rule alone: the Zero flag of loads is the spec's own choice (D8). -/
def Obligations.LoadAbsolute8 : Prop :=
  ∀ (lo hi : Byte) (a : Word) (s : State), a.toNat = hi.toNat * 256 + lo.toNat →
    (IsEncodedAs (.ldaAbs a) [0x10, lo, hi] ∧ LoadsByteAt s (.ldaAbs a) .a a) ∧
    (IsEncodedAs (.ldbAbs a) [0x11, lo, hi] ∧ LoadsByteAt s (.ldbAbs a) .b a) ∧
    (IsEncodedAs (.ldcAbs a) [0x12, lo, hi] ∧ LoadsByteAt s (.ldcAbs a) .c a) ∧
    (IsEncodedAs (.lddAbs a) [0x13, lo, hi] ∧ LoadsByteAt s (.lddAbs a) .d a) ∧
    (IsEncodedAs (.ldeAbs a) [0x14, lo, hi] ∧ LoadsByteAt s (.ldeAbs a) .e a) ∧
    (IsEncodedAs (.ldfAbs a) [0x15, lo, hi] ∧ LoadsByteAt s (.ldfAbs a) .f a)

/-- LD q,#nn and LD p,#nn: each writes its own register (41_loads.md R102, R104). Not of a rule alone: the flags of
loads are the spec's own choice (D8), the two distinct registers too (D5). -/
def Obligations.LoadImmediate16 : Prop :=
  ∀ (lo hi : Byte) (nn : Word) (s : State), nn.toNat = hi.toNat * 256 + lo.toNat →
    (IsEncodedAs (.lddaImm nn) [0x0E, lo, hi] ∧ LoadsPair s (.lddaImm nn) .da nn) ∧
    (IsEncodedAs (.lddbImm nn) [0x0F, lo, hi] ∧ LoadsPair s (.lddbImm nn) .db nn) ∧
    (IsEncodedAs (.ldixImm nn) [0x90, lo, hi] ∧ LoadsPointer s (.ldixImm nn) .idx nn) ∧
    (IsEncodedAs (.ldiyImm nn) [0x91, lo, hi] ∧ LoadsPointer s (.ldiyImm nn) .idy nn)

/-- LD q,[a] and LD p,[a] (41_loads.md R103, R105). Not of a rule alone: the flags of loads are the spec's own choice
(D8). -/
def Obligations.LoadAbsolute16 : Prop :=
  ∀ (lo hi : Byte) (a : Word) (s : State), a.toNat = hi.toNat * 256 + lo.toNat →
    (IsEncodedAs (.lddaAbs a) [0x16, lo, hi] ∧ LoadsWordAt s (.lddaAbs a) a (LoadsPair s (.lddaAbs a) .da)) ∧
    (IsEncodedAs (.lddbAbs a) [0x17, lo, hi] ∧ LoadsWordAt s (.lddbAbs a) a (LoadsPair s (.lddbAbs a) .db)) ∧
    (IsEncodedAs (.ldixAbs a) [0x92, lo, hi] ∧ LoadsWordAt s (.ldixAbs a) a (LoadsPointer s (.ldixAbs a) .idx)) ∧
    (IsEncodedAs (.ldiyAbs a) [0x93, lo, hi] ∧ LoadsWordAt s (.ldiyAbs a) a (LoadsPointer s (.ldiyAbs a) .idy))

/-! ### ALU -/

/-- ADD r,r' and SUB r,r', for every pair of registers, the same one twice too (42_alu.md R120, R121). Not of a rule
alone: the register-pair byte and the fault of a bad field (R79) are the spec's own choice (D2), that the destination
is checked first D30, that exec raises it log entry 12. -/
def Obligations.AddSub8 : Prop :=
  ∀ (dst src : Reg8) (s : State),
    IsEncodedAs (.addReg (codeOf dst) (codeOf src)) [0x60, codeOf dst ++ codeOf src] ∧
    Computes8 s (.addReg (codeOf dst) (codeOf src)) dst (s.get8 dst + s.get8 src)
      (decide ((s.get8 dst).toNat + (s.get8 src).toNat > 255)) ∧
    IsEncodedAs (.subReg (codeOf dst) (codeOf src)) [0x61, codeOf dst ++ codeOf src] ∧
    Computes8 s (.subReg (codeOf dst) (codeOf src)) dst (s.get8 dst - s.get8 src)
      (decide ((s.get8 dst).toNat < (s.get8 src).toNat)) ∧
    ChecksPair s .addReg ∧ ChecksPair s .subReg

/-- CMP r,r' and CMP r,#n (42_alu.md R122, R136). Not of a rule alone: the register-pair byte and the fault of a bad
field (R79) are the spec's own choice (D2), that the destination is checked first D30, that exec raises it log entry
12. -/
def Obligations.Compare8 : Prop :=
  ∀ (x y : Reg8) (n : Byte) (s : State),
    (IsEncodedAs (.cmpReg (codeOf x) (codeOf y)) [0x62, codeOf x ++ codeOf y] ∧
      Compares s (.cmpReg (codeOf x) (codeOf y)) (s.get8 x) (s.get8 y) ∧ ChecksPair s .cmpReg) ∧
    (IsEncodedAs (.cmpAImm n) [0x58, n] ∧ Compares s (.cmpAImm n) s.a n) ∧
    (IsEncodedAs (.cmpBImm n) [0x59, n] ∧ Compares s (.cmpBImm n) s.b n) ∧
    (IsEncodedAs (.cmpCImm n) [0x5A, n] ∧ Compares s (.cmpCImm n) s.c n) ∧
    (IsEncodedAs (.cmpDImm n) [0x5B, n] ∧ Compares s (.cmpDImm n) s.d n) ∧
    (IsEncodedAs (.cmpEImm n) [0x5C, n] ∧ Compares s (.cmpEImm n) s.e n) ∧
    (IsEncodedAs (.cmpFImm n) [0x5D, n] ∧ Compares s (.cmpFImm n) s.f n)

/-- INC r and DEC r: Carry exactly when the old value was 0xFF, or 0x00 (42_alu.md R123, R124). -/
def Obligations.IncDec8 : Prop :=
  ∀ s : State,
    (IsEncodedAs .incA [0x20] ∧ Computes8 s .incA .a (s.a + 1#8) (decide (s.a = 0xFF#8))) ∧
    (IsEncodedAs .incB [0x21] ∧ Computes8 s .incB .b (s.b + 1#8) (decide (s.b = 0xFF#8))) ∧
    (IsEncodedAs .incC [0x22] ∧ Computes8 s .incC .c (s.c + 1#8) (decide (s.c = 0xFF#8))) ∧
    (IsEncodedAs .incD [0x23] ∧ Computes8 s .incD .d (s.d + 1#8) (decide (s.d = 0xFF#8))) ∧
    (IsEncodedAs .incE [0x24] ∧ Computes8 s .incE .e (s.e + 1#8) (decide (s.e = 0xFF#8))) ∧
    (IsEncodedAs .incF [0x25] ∧ Computes8 s .incF .f (s.f + 1#8) (decide (s.f = 0xFF#8))) ∧
    (IsEncodedAs .decA [0x28] ∧ Computes8 s .decA .a (s.a - 1#8) (decide (s.a = 0x00#8))) ∧
    (IsEncodedAs .decB [0x29] ∧ Computes8 s .decB .b (s.b - 1#8) (decide (s.b = 0x00#8))) ∧
    (IsEncodedAs .decC [0x2A] ∧ Computes8 s .decC .c (s.c - 1#8) (decide (s.c = 0x00#8))) ∧
    (IsEncodedAs .decD [0x2B] ∧ Computes8 s .decD .d (s.d - 1#8) (decide (s.d = 0x00#8))) ∧
    (IsEncodedAs .decE [0x2C] ∧ Computes8 s .decE .e (s.e - 1#8) (decide (s.e = 0x00#8))) ∧
    (IsEncodedAs .decF [0x2D] ∧ Computes8 s .decF .f (s.f - 1#8) (decide (s.f = 0x00#8)))

/-- ADD and SUB between DA and DB (42_alu.md R125, R126). Not of a rule alone: the operand pairs are the spec's own
choice (D25). -/
def Obligations.AddSub16 : Prop :=
  ∀ s : State,
    (IsEncodedAs .addDaDb [0x68] ∧
      Computes16 s .addDaDb .da (s.da + s.db) (decide (s.da.toNat + s.db.toNat > 65535))) ∧
    (IsEncodedAs .addDbDa [0x69] ∧
      Computes16 s .addDbDa .db (s.db + s.da) (decide (s.db.toNat + s.da.toNat > 65535))) ∧
    (IsEncodedAs .subDaDb [0x6A] ∧ Computes16 s .subDaDb .da (s.da - s.db) (decide (s.da.toNat < s.db.toNat))) ∧
    (IsEncodedAs .subDbDa [0x6B] ∧ Computes16 s .subDbDa .db (s.db - s.da) (decide (s.db.toNat < s.da.toNat)))

/-- CMP between DA and DB, and CMP q,#nn: flags from all 16 bits (42_alu.md R127, R137). Not of a rule alone: the
operand pairs of R127 are the spec's own choice (D25). -/
def Obligations.Compare16 : Prop :=
  ∀ (lo hi : Byte) (nn : Word) (s : State), nn.toNat = hi.toNat * 256 + lo.toNat →
    (IsEncodedAs .cmpDaDb [0x6C] ∧ Compares s .cmpDaDb s.da s.db) ∧
    (IsEncodedAs .cmpDbDa [0x6D] ∧ Compares s .cmpDbDa s.db s.da) ∧
    (IsEncodedAs (.cmpDaImm nn) [0x5E, lo, hi] ∧ Compares s (.cmpDaImm nn) s.da nn) ∧
    (IsEncodedAs (.cmpDbImm nn) [0x5F, lo, hi] ∧ Compares s (.cmpDbImm nn) s.db nn)

/-- INC q and DEC q (42_alu.md R128, R129). -/
def Obligations.IncDec16 : Prop :=
  ∀ s : State,
    (IsEncodedAs .incDa [0x26] ∧ Computes16 s .incDa .da (s.da + 1#16) (decide (s.da = 0xFFFF#16))) ∧
    (IsEncodedAs .incDb [0x27] ∧ Computes16 s .incDb .db (s.db + 1#16) (decide (s.db = 0xFFFF#16))) ∧
    (IsEncodedAs .decDa [0x2E] ∧ Computes16 s .decDa .da (s.da - 1#16) (decide (s.da = 0x0000#16))) ∧
    (IsEncodedAs .decDb [0x2F] ∧ Computes16 s .decDb .db (s.db - 1#16) (decide (s.db = 0x0000#16)))

/-- AND, OR and XOR r,r': Carry is cleared (42_alu.md R130, R131, R132). Not of a rule alone: the register-pair byte
and the fault of a bad field (R79) are the spec's own choice (D2), that the destination is checked first D30, that
exec raises it log entry 12. -/
def Obligations.Logic8 : Prop :=
  ∀ (dst src : Reg8) (s : State),
    IsEncodedAs (.andReg (codeOf dst) (codeOf src)) [0x63, codeOf dst ++ codeOf src] ∧
    Computes8 s (.andReg (codeOf dst) (codeOf src)) dst (s.get8 dst &&& s.get8 src) false ∧
    IsEncodedAs (.orReg (codeOf dst) (codeOf src)) [0x64, codeOf dst ++ codeOf src] ∧
    Computes8 s (.orReg (codeOf dst) (codeOf src)) dst (s.get8 dst ||| s.get8 src) false ∧
    IsEncodedAs (.xorReg (codeOf dst) (codeOf src)) [0x65, codeOf dst ++ codeOf src] ∧
    Computes8 s (.xorReg (codeOf dst) (codeOf src)) dst (s.get8 dst ^^^ s.get8 src) false ∧
    ChecksPair s .andReg ∧ ChecksPair s .orReg ∧ ChecksPair s .xorReg

/-- NOT r: Carry keeps its value (42_alu.md R133). Not of a rule alone: that Carry keeps its value is the spec's own
choice (D9). -/
def Obligations.Not8 : Prop :=
  ∀ s : State,
    (IsEncodedAs .notA [0x30] ∧ Computes8 s .notA .a (s.a ^^^ 0xFF#8) s.flags.c) ∧
    (IsEncodedAs .notB [0x31] ∧ Computes8 s .notB .b (s.b ^^^ 0xFF#8) s.flags.c) ∧
    (IsEncodedAs .notC [0x32] ∧ Computes8 s .notC .c (s.c ^^^ 0xFF#8) s.flags.c) ∧
    (IsEncodedAs .notD [0x33] ∧ Computes8 s .notD .d (s.d ^^^ 0xFF#8) s.flags.c) ∧
    (IsEncodedAs .notE [0x34] ∧ Computes8 s .notE .e (s.e ^^^ 0xFF#8) s.flags.c) ∧
    (IsEncodedAs .notF [0x35] ∧ Computes8 s .notF .f (s.f ^^^ 0xFF#8) s.flags.c)

/-- SHL r and SHR r: Carry is the bit shifted out; SHR fills with zero (42_alu.md R134, R135). -/
def Obligations.Shifts8 : Prop :=
  ∀ s : State,
    (IsEncodedAs .shlA [0x38] ∧ Computes8 s .shlA .a (s.a <<< 1) (s.a.getLsbD 7)) ∧
    (IsEncodedAs .shlB [0x39] ∧ Computes8 s .shlB .b (s.b <<< 1) (s.b.getLsbD 7)) ∧
    (IsEncodedAs .shlC [0x3A] ∧ Computes8 s .shlC .c (s.c <<< 1) (s.c.getLsbD 7)) ∧
    (IsEncodedAs .shlD [0x3B] ∧ Computes8 s .shlD .d (s.d <<< 1) (s.d.getLsbD 7)) ∧
    (IsEncodedAs .shlE [0x3C] ∧ Computes8 s .shlE .e (s.e <<< 1) (s.e.getLsbD 7)) ∧
    (IsEncodedAs .shlF [0x3D] ∧ Computes8 s .shlF .f (s.f <<< 1) (s.f.getLsbD 7)) ∧
    (IsEncodedAs .shrA [0x40] ∧ Computes8 s .shrA .a (s.a >>> 1) (s.a.getLsbD 0)) ∧
    (IsEncodedAs .shrB [0x41] ∧ Computes8 s .shrB .b (s.b >>> 1) (s.b.getLsbD 0)) ∧
    (IsEncodedAs .shrC [0x42] ∧ Computes8 s .shrC .c (s.c >>> 1) (s.c.getLsbD 0)) ∧
    (IsEncodedAs .shrD [0x43] ∧ Computes8 s .shrD .d (s.d >>> 1) (s.d.getLsbD 0)) ∧
    (IsEncodedAs .shrE [0x44] ∧ Computes8 s .shrE .e (s.e >>> 1) (s.e.getLsbD 0)) ∧
    (IsEncodedAs .shrF [0x45] ∧ Computes8 s .shrF .f (s.f >>> 1) (s.f.getLsbD 0))

/-! ### Jumps, calls and returns -/

/-- JMP, JZ, JNZ, JC, JNC, JN, JNN (43_jumps_calls.md R140 to R146). -/
def Obligations.AbsoluteJumps : Prop :=
  ∀ (lo hi : Byte) (a : Word) (s : State), a.toNat = hi.toNat * 256 + lo.toNat →
    (IsEncodedAs (.jmp a) [0x80, lo, hi] ∧ Jumps s (.jmp a) true a) ∧
    (IsEncodedAs (.jz a) [0x81, lo, hi] ∧ Jumps s (.jz a) s.flags.z a) ∧
    (IsEncodedAs (.jnz a) [0x82, lo, hi] ∧ Jumps s (.jnz a) (!s.flags.z) a) ∧
    (IsEncodedAs (.jc a) [0x83, lo, hi] ∧ Jumps s (.jc a) s.flags.c a) ∧
    (IsEncodedAs (.jnc a) [0x84, lo, hi] ∧ Jumps s (.jnc a) (!s.flags.c) a) ∧
    (IsEncodedAs (.jn a) [0x85, lo, hi] ∧ Jumps s (.jn a) s.flags.n a) ∧
    (IsEncodedAs (.jnn a) [0x86, lo, hi] ∧ Jumps s (.jnn a) (!s.flags.n) a)

/-- JR, JRZ, JRNZ, JRC: the offset is signed and counts from the address after the instruction, modulo 2^16
(43_jumps_calls.md R149 to R152). -/
def Obligations.RelativeJumps : Prop :=
  ∀ (d : Byte) (target : Word) (s : State), (target.toNat : Int) = (s.pc.toNat + d.toInt) % 65536 →
    (IsEncodedAs (.jr d) [0x8A, d] ∧ Jumps s (.jr d) true target) ∧
    (IsEncodedAs (.jrz d) [0x8B, d] ∧ Jumps s (.jrz d) s.flags.z target) ∧
    (IsEncodedAs (.jrnz d) [0x8C, d] ∧ Jumps s (.jrnz d) (!s.flags.z) target) ∧
    (IsEncodedAs (.jrc d) [0x8D, d] ∧ Jumps s (.jrc d) s.flags.c target)

/-- CALL a: pushes the address after itself, then pc <- a (43_jumps_calls.md R147). Not of a rule alone: the stack
convention is the spec's own choice (D15). -/
def Obligations.CallPushesTheReturnAddress : Prop :=
  ∀ (lo hi : Byte) (a : Word) (s : State), a.toNat = hi.toNat * 256 + lo.toNat →
    IsEncodedAs (.call a) [0x88, lo, hi] ∧ PushesWord s (.call a) s.pc a

/-- RET: pc <- the word popped (43_jumps_calls.md R148). Not of a rule alone: the stack convention is the spec's own
choice (D15). -/
def Obligations.RetPopsPc : Prop :=
  ∀ s : State, IsEncodedAs .ret [0x89] ∧ PopsWord s .ret .pc []

/-! ### Stores and the stack -/

/-- ST r,[a] (44_stores_stack.md R160). -/
def Obligations.Store8 : Prop :=
  ∀ (lo hi : Byte) (a : Word) (s : State), a.toNat = hi.toNat * 256 + lo.toNat →
    (IsEncodedAs (.staAbs a) [0x18, lo, hi] ∧ StoresByteAt s (.staAbs a) a.toNat s.a) ∧
    (IsEncodedAs (.stbAbs a) [0x19, lo, hi] ∧ StoresByteAt s (.stbAbs a) a.toNat s.b) ∧
    (IsEncodedAs (.stcAbs a) [0x1A, lo, hi] ∧ StoresByteAt s (.stcAbs a) a.toNat s.c) ∧
    (IsEncodedAs (.stdAbs a) [0x1B, lo, hi] ∧ StoresByteAt s (.stdAbs a) a.toNat s.d) ∧
    (IsEncodedAs (.steAbs a) [0x1C, lo, hi] ∧ StoresByteAt s (.steAbs a) a.toNat s.e) ∧
    (IsEncodedAs (.stfAbs a) [0x1D, lo, hi] ∧ StoresByteAt s (.stfAbs a) a.toNat s.f)

/-- ST q,[a] (44_stores_stack.md R161). -/
def Obligations.Store16 : Prop :=
  ∀ (lo hi : Byte) (a : Word) (s : State), a.toNat = hi.toNat * 256 + lo.toNat →
    (IsEncodedAs (.stdaAbs a) [0x1E, lo, hi] ∧ StoresWordAt s (.stdaAbs a) a s.da) ∧
    (IsEncodedAs (.stdbAbs a) [0x1F, lo, hi] ∧ StoresWordAt s (.stdbAbs a) a s.db)

/-- PUSH r (44_stores_stack.md R168). Not of a rule alone: the stack convention is the spec's own choice (D15). -/
def Obligations.Push8 : Prop :=
  ∀ s : State,
    (IsEncodedAs .pushA [0x48] ∧ PushesOctet s .pushA s.a) ∧ (IsEncodedAs .pushB [0x49] ∧ PushesOctet s .pushB s.b) ∧
    (IsEncodedAs .pushC [0x4A] ∧ PushesOctet s .pushC s.c) ∧ (IsEncodedAs .pushD [0x4B] ∧ PushesOctet s .pushD s.d) ∧
    (IsEncodedAs .pushE [0x4C] ∧ PushesOctet s .pushE s.e) ∧ (IsEncodedAs .pushF [0x4D] ∧ PushesOctet s .pushF s.f)

/-- POP r (44_stores_stack.md R169). Not of a rule alone: the stack convention is the spec's own choice (D15), the
Zero flag too (D8). -/
def Obligations.Pop8 : Prop :=
  ∀ s : State,
    (IsEncodedAs .popA [0x50] ∧ PopsOctet s .popA .a) ∧ (IsEncodedAs .popB [0x51] ∧ PopsOctet s .popB .b) ∧
    (IsEncodedAs .popC [0x52] ∧ PopsOctet s .popC .c) ∧ (IsEncodedAs .popD [0x53] ∧ PopsOctet s .popD .d) ∧
    (IsEncodedAs .popE [0x54] ∧ PopsOctet s .popE .e) ∧ (IsEncodedAs .popF [0x55] ∧ PopsOctet s .popF .f)

/-- PUSH q (44_stores_stack.md R170). Not of a rule alone: the stack convention is the spec's own choice (D15). -/
def Obligations.Push16 : Prop :=
  ∀ s : State,
    (IsEncodedAs .pushDa [0x4E] ∧ PushesWord s .pushDa s.da s.pc) ∧
    (IsEncodedAs .pushDb [0x4F] ∧ PushesWord s .pushDb s.db s.pc)

/-- POP q (44_stores_stack.md R171). Not of a rule alone: the stack convention is the spec's own choice (D15), the
Zero flag too (D8). -/
def Obligations.Pop16 : Prop :=
  ∀ s : State,
    (IsEncodedAs .popDa [0x56] ∧ PopsWord s .popDa .da [.flagZ]) ∧
    (IsEncodedAs .popDb [0x57] ∧ PopsWord s .popDb .db [.flagZ])

/-! ### Indexed addressing -/

/-- LD A,(p), (p+d), (p)+ and (p)- (45_indexed.md R176, R178, R180, R182): the displacement is signed and the sum is
modulo 2^16; the pointer of a post-modified form moves by 1 after the access. Not of a rule alone: the Zero flag of
loads is the spec's own choice (D8), the wrap of the displaced address too (D16). -/
def Obligations.LoadIndexed : Prop :=
  ∀ (d : Byte) (s : State),
    (IsEncodedAs .ldaIdx [0xA0] ∧ LoadsIndexed s .ldaIdx .idx s.idx.toNat s.idx) ∧
    (IsEncodedAs .ldaIdy [0xA1] ∧ LoadsIndexed s .ldaIdy .idy s.idy.toNat s.idy) ∧
    (displacedAddr .idx d s : Int) = (s.idx.toNat + d.toInt) % 65536 ∧
    (IsEncodedAs (.ldaIdxDisp d) [0xA4, d] ∧ LoadsIndexed s (.ldaIdxDisp d) .idx (displacedAddr .idx d s) s.idx) ∧
    (displacedAddr .idy d s : Int) = (s.idy.toNat + d.toInt) % 65536 ∧
    (IsEncodedAs (.ldaIdyDisp d) [0xA5, d] ∧ LoadsIndexed s (.ldaIdyDisp d) .idy (displacedAddr .idy d s) s.idy) ∧
    (IsEncodedAs .ldaIdxInc [0xA8] ∧ LoadsIndexed s .ldaIdxInc .idx s.idx.toNat (s.idx + 1#16)) ∧
    (IsEncodedAs .ldaIdyInc [0xA9] ∧ LoadsIndexed s .ldaIdyInc .idy s.idy.toNat (s.idy + 1#16)) ∧
    (IsEncodedAs .ldaIdxDec [0xAC] ∧ LoadsIndexed s .ldaIdxDec .idx s.idx.toNat (s.idx - 1#16)) ∧
    (IsEncodedAs .ldaIdyDec [0xAD] ∧ LoadsIndexed s .ldaIdyDec .idy s.idy.toNat (s.idy - 1#16))

/-- ST A,(p), (p+d), (p)+ and (p)- (45_indexed.md R177, R179, R181, R183). Not of a rule alone: the wrap of the
displaced address is the spec's own choice (D16). -/
def Obligations.StoreIndexed : Prop :=
  ∀ (d : Byte) (s : State),
    (IsEncodedAs .staIdx [0xA2] ∧ StoresIndexed s .staIdx .idx (pointerAddr .idx s) s.idx) ∧
    (IsEncodedAs .staIdy [0xA3] ∧ StoresIndexed s .staIdy .idy (pointerAddr .idy s) s.idy) ∧
    (displacedAddr .idx d s : Int) = (s.idx.toNat + d.toInt) % 65536 ∧
    (IsEncodedAs (.staIdxDisp d) [0xA6, d] ∧ StoresIndexed s (.staIdxDisp d) .idx (displacedAddr .idx d s) s.idx) ∧
    (displacedAddr .idy d s : Int) = (s.idy.toNat + d.toInt) % 65536 ∧
    (IsEncodedAs (.staIdyDisp d) [0xA7, d] ∧ StoresIndexed s (.staIdyDisp d) .idy (displacedAddr .idy d s) s.idy) ∧
    (IsEncodedAs .staIdxInc [0xAA] ∧ StoresIndexed s .staIdxInc .idx (pointerAddr .idx s) (s.idx + 1#16)) ∧
    (IsEncodedAs .staIdyInc [0xAB] ∧ StoresIndexed s .staIdyInc .idy (pointerAddr .idy s) (s.idy + 1#16)) ∧
    (IsEncodedAs .staIdxDec [0xAE] ∧ StoresIndexed s .staIdxDec .idx (pointerAddr .idx s) (s.idx - 1#16)) ∧
    (IsEncodedAs .staIdyDec [0xAF] ∧ StoresIndexed s .staIdyDec .idy (pointerAddr .idy s) (s.idy - 1#16)) ∧
    pointerAddr .idx s = s.idx.toNat ∧ pointerAddr .idy s = s.idy.toNat

/-- INC p, DEC p and ADD p,#n: no flag changes, and n is zero-extended (45_indexed.md R184, R185, R186). Not of a rule
alone: that no flag is written and that n is zero-extended are the spec's own choices (D10). -/
def Obligations.PointerArithmetic : Prop :=
  ∀ (n : Byte) (s : State),
    (IsEncodedAs .incIdx [0x94] ∧ LoadsPointer s .incIdx .idx (s.idx + 1#16)) ∧
    (IsEncodedAs .incIdy [0x95] ∧ LoadsPointer s .incIdy .idy (s.idy + 1#16)) ∧
    (IsEncodedAs .decIdx [0x96] ∧ LoadsPointer s .decIdx .idx (s.idx - 1#16)) ∧
    (IsEncodedAs .decIdy [0x97] ∧ LoadsPointer s .decIdy .idy (s.idy - 1#16)) ∧
    (IsEncodedAs (.addIdxImm n) [0x98, n] ∧
      LoadsPointer s (.addIdxImm n) .idx (BitVec.ofNat 16 (s.idx.toNat + n.toNat))) ∧
    (IsEncodedAs (.addIdyImm n) [0x99, n] ∧
      LoadsPointer s (.addIdyImm n) .idy (BitVec.ofNat 16 (s.idy.toNat + n.toNat)))

/-! ### Moves and swaps -/

/-- MOV r,r' and SWAP r,r', for every pair of registers, the same one twice too (46_moves.md R190, R191). Not of a
rule alone: the flags are the spec's own choice (D8), the register codes and the fault of a bad field (R79) too (D2),
that the destination is checked first D30, that exec raises it log entry 12. -/
def Obligations.MoveSwap8 : Prop :=
  ∀ (dst src : Reg8) (s : State),
    IsEncodedAs (.movReg (codeOf dst) (codeOf src)) [0x66, codeOf dst ++ codeOf src] ∧
    Loads8 s (.movReg (codeOf dst) (codeOf src)) dst (s.get8 src) ∧
    IsEncodedAs (.swapReg (codeOf dst) (codeOf src)) [0x67, codeOf dst ++ codeOf src] ∧
    Swaps8 s (.swapReg (codeOf dst) (codeOf src)) dst src ∧
    ChecksPair s .movReg ∧ ChecksPair s .swapReg

/-- MOV into DA or DB (46_moves.md R192, R194). Not of a rule alone: the Zero flag of moves is the spec's own choice
(D8). -/
def Obligations.MoveIntoPair : Prop :=
  ∀ s : State,
    (IsEncodedAs .movDaDb [0x70] ∧ LoadsPair s .movDaDb .da s.db) ∧
    (IsEncodedAs .movDbDa [0x71] ∧ LoadsPair s .movDbDa .db s.da) ∧
    (IsEncodedAs .movDaIdx [0x73] ∧ LoadsPair s .movDaIdx .da s.idx) ∧
    (IsEncodedAs .movDaIdy [0x74] ∧ LoadsPair s .movDaIdy .da s.idy) ∧
    (IsEncodedAs .movDbIdx [0x75] ∧ LoadsPair s .movDbIdx .db s.idx) ∧
    (IsEncodedAs .movDbIdy [0x76] ∧ LoadsPair s .movDbIdy .db s.idy)

/-- MOV into IDX or IDY (46_moves.md R195, R196). Not of a rule alone: that no flag is written is the spec's own
choice (D8). -/
def Obligations.MoveIntoPointer : Prop :=
  ∀ s : State,
    (IsEncodedAs .movIdxDa [0x77] ∧ LoadsPointer s .movIdxDa .idx s.da) ∧
    (IsEncodedAs .movIdyDa [0x78] ∧ LoadsPointer s .movIdyDa .idy s.da) ∧
    (IsEncodedAs .movIdxDb [0x79] ∧ LoadsPointer s .movIdxDb .idx s.db) ∧
    (IsEncodedAs .movIdyDb [0x7A] ∧ LoadsPointer s .movIdyDb .idy s.db) ∧
    (IsEncodedAs .movIdxIdy [0x7B] ∧ LoadsPointer s .movIdxIdy .idx s.idy) ∧
    (IsEncodedAs .movIdyIdx [0x7C] ∧ LoadsPointer s .movIdyIdx .idy s.idx)

/-- SWAP DA,DB and SWAP IDX,IDY (46_moves.md R193, R197). Not of a rule alone: that no flag is written is the spec's
own choice (D8). -/
def Obligations.Swap16 : Prop :=
  ∀ s : State,
    (IsEncodedAs .swapDaDb [0x72] ∧ Swaps16 s .swapDaDb .da .db) ∧
    (IsEncodedAs .swapIdxIdy [0x7D] ∧ Swaps16 s .swapIdxIdy .idx .idy)

/-! ### The invariant and the host -/

/-- Every host operation that takes effect keeps the invariant, from every state that has it: the step of the core,
Reset, LoadProgram, Clear, Start, Stop and the writes of registers and memory (60_exceptions.md R217). Not of a rule
alone: the canonical form of memory (log entry 4), unbounded counters (13) and faults as next states (7) are the
model's choices. -/
def Obligations.HostOperationKeepsInvariant : Prop :=
  ∀ (s t : State) (op : HostOp), s.Inv → hostApply op s = .done t → t.Inv
end

