-- ==== Sys2Proof/Laws/Decode.lean ====
section
/-!
SUPPORT. The small laws of the decoder's helpers: splitting and joining words and register-pair bytes, and what the
decoder does with each format.
-/

namespace Sys2Proof

@[simp] theorem concat_highByte_lowByte (v : Word) : concat (highByte v) (lowByte v) = v := by
  apply BitVec.eq_of_getLsbD_eq
  intro i hi
  simp only [concat, highByte, lowByte, BitVec.getLsbD_append, BitVec.getLsbD_extractLsb']
  rcases Nat.lt_or_ge i 8 with h | h
  · simp [h]
  · have h1 : ¬ i < 8 := by omega
    have h2 : i - 8 < 8 := by omega
    simp [h1, h2, Nat.add_sub_cancel' h]

@[simp] theorem lowByte_concat (hi lo : Byte) : lowByte (concat hi lo) = lo := by
  apply BitVec.eq_of_getLsbD_eq
  intro i h
  simp only [concat, lowByte, BitVec.getLsbD_extractLsb', BitVec.getLsbD_append]
  simp [h]

@[simp] theorem highByte_concat (hi lo : Byte) : highByte (concat hi lo) = hi := by
  apply BitVec.eq_of_getLsbD_eq
  intro i h
  simp only [concat, highByte, BitVec.getLsbD_extractLsb', BitVec.getLsbD_append]
  simp [h]

@[simp] theorem pairDst_pairByte (dst src : RegCode) : pairDst (pairByte dst src) = dst := by
  apply BitVec.eq_of_getLsbD_eq
  intro i h
  simp only [pairByte, pairDst, BitVec.getLsbD_extractLsb', BitVec.getLsbD_append]
  simp [h]

@[simp] theorem pairSrc_pairByte (dst src : RegCode) : pairSrc (pairByte dst src) = src := by
  apply BitVec.eq_of_getLsbD_eq
  intro i h
  simp only [pairByte, pairSrc, BitVec.getLsbD_extractLsb', BitVec.getLsbD_append]
  simp [h]

@[simp] theorem pairByte_pairDst_pairSrc (rr : Byte) : pairByte (pairDst rr) (pairSrc rr) = rr := by
  apply BitVec.eq_of_getLsbD_eq
  intro i hi
  simp only [pairByte, pairDst, pairSrc, BitVec.getLsbD_append, BitVec.getLsbD_extractLsb']
  rcases Nat.lt_or_ge i 4 with h | h
  · simp [h]
  · have h1 : ¬ i < 4 := by omega
    have h2 : i - 4 < 4 := by omega
    simp [h1, h2, Nat.add_sub_cancel' h]

/-- `concat` is hi * 256 + lo (00_scope.md R8). -/
theorem concat_toNat (hi lo : Byte) : (concat hi lo).toNat = hi.toNat * 256 + lo.toNat := by
  simp only [concat, BitVec.toNat_append]
  rw [Nat.shiftLeft_eq, Nat.mul_comm, ← Nat.two_pow_add_eq_or_of_lt lo.isLt]

/-! ### What the decoder does with each row of the opcode map -/

@[simp] theorem rowOf_none (op : Byte) : rowOf none op = opcodeMap op := rfl

theorem rowOf_some (l : OpcodeNumbering) (op : Byte) : rowOf (some l) op = (l.lookup op).bind opcodeMap := rfl

variable {map : Option OpcodeNumbering} {op : Byte}

theorem decodeBy_f0 {i : Instr} (rest : List Byte) (h : rowOf map op = some (.f0 i)) :
    decodeBy map (op :: rest) = .ok (i, rest) := by simp [decodeBy, h]

theorem decodeBy_f1 {mk : Byte → Instr} (n : Byte) (rest : List Byte) (h : rowOf map op = some (.f1 mk)) :
    decodeBy map (op :: n :: rest) = .ok (mk n, rest) := by simp [decodeBy, h]

theorem decodeBy_f2 {mk : RegCode → RegCode → Instr} (dst src : RegCode) (rest : List Byte)
    (h : rowOf map op = some (.f2 mk)) : decodeBy map (op :: pairByte dst src :: rest) = .ok (mk dst src, rest) := by
  simp [decodeBy, h]

theorem decodeBy_f3 {mk : Word → Instr} (v : Word) (rest : List Byte) (h : rowOf map op = some (.f3 mk)) :
    decodeBy map (op :: lowByte v :: highByte v :: rest) = .ok (mk v, rest) := by simp [decodeBy, h]

theorem decodeBy_unassigned (rest : List Byte) (h : rowOf map op = none) :
    decodeBy map (op :: rest) = .error (.unknownOpcode op) := by simp [decodeBy, h]

/-- A numbering that is one gives back the instruction whose byte it was asked for (30_encoding.md R80). -/
theorem rowOf_byteOf {b : Byte} (hm : map.all OpcodeNumbering.wf = true) (h : byteOf map op = some b) :
    rowOf map b = opcodeMap op := by
  cases map with
  | none =>
    obtain rfl := Option.some.inj h
    rfl
  | some l =>
    simp only [Option.all_some, OpcodeNumbering.wf, Bool.and_eq_true, decide_eq_true_eq] at hm
    obtain ⟨p, hp, rfl⟩ := Option.map_eq_some_iff.mp h
    have hk := hm.1
    have h2 : p.2 = op := by simpa using List.find?_some hp
    have hl : l.lookup p.1 = some op := by
      have hmem := List.mem_of_find?_eq_some hp
      clear h hp hm
      induction l with
      | nil => simp at hmem
      | cons q l ih =>
        simp only [List.map_cons, List.nodup_cons] at hk
        rcases List.mem_cons.mp hmem with rfl | hq
        · simp [List.lookup, ← h2]
        · have hne : p.1 ≠ q.1 := fun e => hk.1 (e ▸ List.mem_map_of_mem hq)
          simp [List.lookup, beq_eq_false_iff_ne.mpr hne, ih hk.2 hq]
    simp [rowOf_some, hl]

/-! ### The octets of a word as numbers -/

theorem lowByte_toNat (v : Word) : (lowByte v).toNat = v.toNat % 256 := by
  simp [lowByte, BitVec.extractLsb'_toNat]

theorem highByte_toNat (v : Word) : (highByte v).toNat = v.toNat / 256 := by
  have := v.isLt
  simp only [highByte, BitVec.extractLsb'_toNat, Nat.shiftRight_eq_div_pow]
  omega

end Sys2Proof
end

