-- ==== Sys2Proof/Laws/State.lean ====
section
/-!
SUPPORT. What each update of the state does to each field: one lemma per field per update, so that no later proof
unfolds a record update; then the same for the register accessors.
-/

namespace Sys2Proof.Machine

/-! ### `State.set8` -/

@[simp] theorem State.set8_a (r : Reg8) (v : Byte) (s : State) : (s.set8 r v).a = if r = .a then v else s.a := rfl
@[simp] theorem State.set8_b (r : Reg8) (v : Byte) (s : State) : (s.set8 r v).b = if r = .b then v else s.b := rfl
@[simp] theorem State.set8_c (r : Reg8) (v : Byte) (s : State) : (s.set8 r v).c = if r = .c then v else s.c := rfl
@[simp] theorem State.set8_d (r : Reg8) (v : Byte) (s : State) : (s.set8 r v).d = if r = .d then v else s.d := rfl
@[simp] theorem State.set8_e (r : Reg8) (v : Byte) (s : State) : (s.set8 r v).e = if r = .e then v else s.e := rfl
@[simp] theorem State.set8_f (r : Reg8) (v : Byte) (s : State) : (s.set8 r v).f = if r = .f then v else s.f := rfl
@[simp] theorem State.set8_da (r : Reg8) (v : Byte) (s : State) : (s.set8 r v).da = s.da := rfl
@[simp] theorem State.set8_db (r : Reg8) (v : Byte) (s : State) : (s.set8 r v).db = s.db := rfl
@[simp] theorem State.set8_idx (r : Reg8) (v : Byte) (s : State) : (s.set8 r v).idx = s.idx := rfl
@[simp] theorem State.set8_idy (r : Reg8) (v : Byte) (s : State) : (s.set8 r v).idy = s.idy := rfl
@[simp] theorem State.set8_pc (r : Reg8) (v : Byte) (s : State) : (s.set8 r v).pc = s.pc := rfl
@[simp] theorem State.set8_sp (r : Reg8) (v : Byte) (s : State) : (s.set8 r v).sp = s.sp := rfl
@[simp] theorem State.set8_flags (r : Reg8) (v : Byte) (s : State) : (s.set8 r v).flags = s.flags := rfl
@[simp] theorem State.set8_running (r : Reg8) (v : Byte) (s : State) : (s.set8 r v).running = s.running := rfl
@[simp] theorem State.set8_fault (r : Reg8) (v : Byte) (s : State) : (s.set8 r v).fault = s.fault := rfl
@[simp] theorem State.set8_instructionsExecuted (r : Reg8) (v : Byte) (s : State) : (s.set8 r v).instructionsExecuted =
    s.instructionsExecuted := rfl
@[simp] theorem State.set8_cyclesExecuted (r : Reg8) (v : Byte) (s : State) : (s.set8 r v).cyclesExecuted =
    s.cyclesExecuted := rfl
@[simp] theorem State.set8_mode (r : Reg8) (v : Byte) (s : State) : (s.set8 r v).mode = s.mode := rfl
@[simp] theorem State.set8_mem (r : Reg8) (v : Byte) (s : State) : (s.set8 r v).mem = s.mem := rfl
@[simp] theorem State.set8_config (r : Reg8) (v : Byte) (s : State) : (s.set8 r v).config = s.config := rfl
@[simp] theorem State.set8_sysHandler (r : Reg8) (v : Byte) (s : State) : (s.set8 r v).sysHandler = s.sysHandler := rfl
@[simp] theorem State.set8_draws (r : Reg8) (v : Byte) (s : State) : (s.set8 r v).draws = s.draws := rfl

/-! ### `State.set16` -/

@[simp] theorem State.set16_a (p : Reg16) (v : Word) (s : State) : (s.set16 p v).a = s.a := rfl
@[simp] theorem State.set16_b (p : Reg16) (v : Word) (s : State) : (s.set16 p v).b = s.b := rfl
@[simp] theorem State.set16_c (p : Reg16) (v : Word) (s : State) : (s.set16 p v).c = s.c := rfl
@[simp] theorem State.set16_d (p : Reg16) (v : Word) (s : State) : (s.set16 p v).d = s.d := rfl
@[simp] theorem State.set16_e (p : Reg16) (v : Word) (s : State) : (s.set16 p v).e = s.e := rfl
@[simp] theorem State.set16_f (p : Reg16) (v : Word) (s : State) : (s.set16 p v).f = s.f := rfl
@[simp] theorem State.set16_da (p : Reg16) (v : Word) (s : State) : (s.set16 p v).da =
    if p = .da then v else s.da := rfl
@[simp] theorem State.set16_db (p : Reg16) (v : Word) (s : State) : (s.set16 p v).db =
    if p = .db then v else s.db := rfl
@[simp] theorem State.set16_idx (p : Reg16) (v : Word) (s : State) : (s.set16 p v).idx =
    if p = .idx then v else s.idx := rfl
@[simp] theorem State.set16_idy (p : Reg16) (v : Word) (s : State) : (s.set16 p v).idy =
    if p = .idy then v else s.idy := rfl
@[simp] theorem State.set16_pc (p : Reg16) (v : Word) (s : State) : (s.set16 p v).pc =
    if p = .pc then v else s.pc := rfl
@[simp] theorem State.set16_sp (p : Reg16) (v : Word) (s : State) : (s.set16 p v).sp =
    if p = .sp then v else s.sp := rfl
@[simp] theorem State.set16_flags (p : Reg16) (v : Word) (s : State) : (s.set16 p v).flags = s.flags := rfl
@[simp] theorem State.set16_running (p : Reg16) (v : Word) (s : State) : (s.set16 p v).running = s.running := rfl
@[simp] theorem State.set16_fault (p : Reg16) (v : Word) (s : State) : (s.set16 p v).fault = s.fault := rfl
@[simp] theorem State.set16_instructionsExecuted (p : Reg16) (v : Word) (s : State) : (s.set16 p v).instructionsExecuted =
    s.instructionsExecuted := rfl
@[simp] theorem State.set16_cyclesExecuted (p : Reg16) (v : Word) (s : State) : (s.set16 p v).cyclesExecuted =
    s.cyclesExecuted := rfl
@[simp] theorem State.set16_mode (p : Reg16) (v : Word) (s : State) : (s.set16 p v).mode = s.mode := rfl
@[simp] theorem State.set16_mem (p : Reg16) (v : Word) (s : State) : (s.set16 p v).mem = s.mem := rfl
@[simp] theorem State.set16_config (p : Reg16) (v : Word) (s : State) : (s.set16 p v).config = s.config := rfl
@[simp] theorem State.set16_sysHandler (p : Reg16) (v : Word) (s : State) : (s.set16 p v).sysHandler = s.sysHandler := rfl
@[simp] theorem State.set16_draws (p : Reg16) (v : Word) (s : State) : (s.set16 p v).draws = s.draws := rfl

/-! ### `takeFault` -/

@[simp] theorem takeFault_a (k : Fault) (s : State) : (takeFault k s).a = s.a := rfl
@[simp] theorem takeFault_b (k : Fault) (s : State) : (takeFault k s).b = s.b := rfl
@[simp] theorem takeFault_c (k : Fault) (s : State) : (takeFault k s).c = s.c := rfl
@[simp] theorem takeFault_d (k : Fault) (s : State) : (takeFault k s).d = s.d := rfl
@[simp] theorem takeFault_e (k : Fault) (s : State) : (takeFault k s).e = s.e := rfl
@[simp] theorem takeFault_f (k : Fault) (s : State) : (takeFault k s).f = s.f := rfl
@[simp] theorem takeFault_da (k : Fault) (s : State) : (takeFault k s).da = s.da := rfl
@[simp] theorem takeFault_db (k : Fault) (s : State) : (takeFault k s).db = s.db := rfl
@[simp] theorem takeFault_idx (k : Fault) (s : State) : (takeFault k s).idx = s.idx := rfl
@[simp] theorem takeFault_idy (k : Fault) (s : State) : (takeFault k s).idy = s.idy := rfl
@[simp] theorem takeFault_pc (k : Fault) (s : State) : (takeFault k s).pc = s.pc := rfl
@[simp] theorem takeFault_sp (k : Fault) (s : State) : (takeFault k s).sp = s.sp := rfl
@[simp] theorem takeFault_flags (k : Fault) (s : State) : (takeFault k s).flags = s.flags := rfl
@[simp] theorem takeFault_running (k : Fault) (s : State) : (takeFault k s).running = false := rfl
@[simp] theorem takeFault_fault (k : Fault) (s : State) : (takeFault k s).fault = some k := rfl
@[simp] theorem takeFault_instructionsExecuted (k : Fault) (s : State) : (takeFault k s).instructionsExecuted =
    s.instructionsExecuted := rfl
@[simp] theorem takeFault_cyclesExecuted (k : Fault) (s : State) : (takeFault k s).cyclesExecuted =
    s.cyclesExecuted := rfl
@[simp] theorem takeFault_mode (k : Fault) (s : State) : (takeFault k s).mode = s.mode := rfl
@[simp] theorem takeFault_mem (k : Fault) (s : State) : (takeFault k s).mem = s.mem := rfl
@[simp] theorem takeFault_config (k : Fault) (s : State) : (takeFault k s).config = s.config := rfl
@[simp] theorem takeFault_sysHandler (k : Fault) (s : State) : (takeFault k s).sysHandler = s.sysHandler := rfl
@[simp] theorem takeFault_draws (k : Fault) (s : State) : (takeFault k s).draws = s.draws := rfl

/-! ### `countInstruction` -/

@[simp] theorem countInstruction_a (s : State) : (countInstruction s).a = s.a := rfl
@[simp] theorem countInstruction_b (s : State) : (countInstruction s).b = s.b := rfl
@[simp] theorem countInstruction_c (s : State) : (countInstruction s).c = s.c := rfl
@[simp] theorem countInstruction_d (s : State) : (countInstruction s).d = s.d := rfl
@[simp] theorem countInstruction_e (s : State) : (countInstruction s).e = s.e := rfl
@[simp] theorem countInstruction_f (s : State) : (countInstruction s).f = s.f := rfl
@[simp] theorem countInstruction_da (s : State) : (countInstruction s).da = s.da := rfl
@[simp] theorem countInstruction_db (s : State) : (countInstruction s).db = s.db := rfl
@[simp] theorem countInstruction_idx (s : State) : (countInstruction s).idx = s.idx := rfl
@[simp] theorem countInstruction_idy (s : State) : (countInstruction s).idy = s.idy := rfl
@[simp] theorem countInstruction_pc (s : State) : (countInstruction s).pc = s.pc := rfl
@[simp] theorem countInstruction_sp (s : State) : (countInstruction s).sp = s.sp := rfl
@[simp] theorem countInstruction_flags (s : State) : (countInstruction s).flags = s.flags := rfl
@[simp] theorem countInstruction_running (s : State) : (countInstruction s).running = s.running := rfl
@[simp] theorem countInstruction_fault (s : State) : (countInstruction s).fault = s.fault := rfl
@[simp] theorem countInstruction_instructionsExecuted (s : State) : (countInstruction s).instructionsExecuted =
    s.instructionsExecuted + 1 := rfl
@[simp] theorem countInstruction_cyclesExecuted (s : State) : (countInstruction s).cyclesExecuted =
    s.cyclesExecuted + 1 := rfl
@[simp] theorem countInstruction_mode (s : State) : (countInstruction s).mode = s.mode := rfl
@[simp] theorem countInstruction_mem (s : State) : (countInstruction s).mem = s.mem := rfl
@[simp] theorem countInstruction_config (s : State) : (countInstruction s).config = s.config := rfl
@[simp] theorem countInstruction_sysHandler (s : State) : (countInstruction s).sysHandler = s.sysHandler := rfl
@[simp] theorem countInstruction_draws (s : State) : (countInstruction s).draws = s.draws := rfl

/-! ### `setZ` -/

@[simp] theorem setZ_a {w : Nat} (v : BitVec w) (s : State) : (setZ v s).a = s.a := rfl
@[simp] theorem setZ_b {w : Nat} (v : BitVec w) (s : State) : (setZ v s).b = s.b := rfl
@[simp] theorem setZ_c {w : Nat} (v : BitVec w) (s : State) : (setZ v s).c = s.c := rfl
@[simp] theorem setZ_d {w : Nat} (v : BitVec w) (s : State) : (setZ v s).d = s.d := rfl
@[simp] theorem setZ_e {w : Nat} (v : BitVec w) (s : State) : (setZ v s).e = s.e := rfl
@[simp] theorem setZ_f {w : Nat} (v : BitVec w) (s : State) : (setZ v s).f = s.f := rfl
@[simp] theorem setZ_da {w : Nat} (v : BitVec w) (s : State) : (setZ v s).da = s.da := rfl
@[simp] theorem setZ_db {w : Nat} (v : BitVec w) (s : State) : (setZ v s).db = s.db := rfl
@[simp] theorem setZ_idx {w : Nat} (v : BitVec w) (s : State) : (setZ v s).idx = s.idx := rfl
@[simp] theorem setZ_idy {w : Nat} (v : BitVec w) (s : State) : (setZ v s).idy = s.idy := rfl
@[simp] theorem setZ_pc {w : Nat} (v : BitVec w) (s : State) : (setZ v s).pc = s.pc := rfl
@[simp] theorem setZ_sp {w : Nat} (v : BitVec w) (s : State) : (setZ v s).sp = s.sp := rfl
@[simp] theorem setZ_flags {w : Nat} (v : BitVec w) (s : State) : (setZ v s).flags =
    { s.flags with z := v == 0#w } := rfl
@[simp] theorem setZ_running {w : Nat} (v : BitVec w) (s : State) : (setZ v s).running = s.running := rfl
@[simp] theorem setZ_fault {w : Nat} (v : BitVec w) (s : State) : (setZ v s).fault = s.fault := rfl
@[simp] theorem setZ_instructionsExecuted {w : Nat} (v : BitVec w) (s : State) : (setZ v s).instructionsExecuted =
    s.instructionsExecuted := rfl
@[simp] theorem setZ_cyclesExecuted {w : Nat} (v : BitVec w) (s : State) : (setZ v s).cyclesExecuted =
    s.cyclesExecuted := rfl
@[simp] theorem setZ_mode {w : Nat} (v : BitVec w) (s : State) : (setZ v s).mode = s.mode := rfl
@[simp] theorem setZ_mem {w : Nat} (v : BitVec w) (s : State) : (setZ v s).mem = s.mem := rfl
@[simp] theorem setZ_config {w : Nat} (v : BitVec w) (s : State) : (setZ v s).config = s.config := rfl
@[simp] theorem setZ_sysHandler {w : Nat} (v : BitVec w) (s : State) : (setZ v s).sysHandler = s.sysHandler := rfl
@[simp] theorem setZ_draws {w : Nat} (v : BitVec w) (s : State) : (setZ v s).draws = s.draws := rfl

/-! ### `flagsArith` -/

@[simp] theorem flagsArith_a (raw : Int) (w : Nat) (carry : Bool) (s : State) : (flagsArith raw w carry s).a =
    s.a := rfl
@[simp] theorem flagsArith_b (raw : Int) (w : Nat) (carry : Bool) (s : State) : (flagsArith raw w carry s).b =
    s.b := rfl
@[simp] theorem flagsArith_c (raw : Int) (w : Nat) (carry : Bool) (s : State) : (flagsArith raw w carry s).c =
    s.c := rfl
@[simp] theorem flagsArith_d (raw : Int) (w : Nat) (carry : Bool) (s : State) : (flagsArith raw w carry s).d =
    s.d := rfl
@[simp] theorem flagsArith_e (raw : Int) (w : Nat) (carry : Bool) (s : State) : (flagsArith raw w carry s).e =
    s.e := rfl
@[simp] theorem flagsArith_f (raw : Int) (w : Nat) (carry : Bool) (s : State) : (flagsArith raw w carry s).f =
    s.f := rfl
@[simp] theorem flagsArith_da (raw : Int) (w : Nat) (carry : Bool) (s : State) : (flagsArith raw w carry s).da =
    s.da := rfl
@[simp] theorem flagsArith_db (raw : Int) (w : Nat) (carry : Bool) (s : State) : (flagsArith raw w carry s).db =
    s.db := rfl
@[simp] theorem flagsArith_idx (raw : Int) (w : Nat) (carry : Bool) (s : State) : (flagsArith raw w carry s).idx =
    s.idx := rfl
@[simp] theorem flagsArith_idy (raw : Int) (w : Nat) (carry : Bool) (s : State) : (flagsArith raw w carry s).idy =
    s.idy := rfl
@[simp] theorem flagsArith_pc (raw : Int) (w : Nat) (carry : Bool) (s : State) : (flagsArith raw w carry s).pc =
    s.pc := rfl
@[simp] theorem flagsArith_sp (raw : Int) (w : Nat) (carry : Bool) (s : State) : (flagsArith raw w carry s).sp =
    s.sp := rfl
@[simp] theorem flagsArith_flags (raw : Int) (w : Nat) (carry : Bool) (s : State) : (flagsArith raw w carry s).flags =
    { z := BitVec.ofInt w raw == 0#w, c := carry, o := Config.overflowDraw s.draws, n := (BitVec.ofInt w raw).msb } := rfl
@[simp] theorem flagsArith_running (raw : Int) (w : Nat) (carry : Bool) (s : State) : (flagsArith raw w carry s).running =
    s.running := rfl
@[simp] theorem flagsArith_fault (raw : Int) (w : Nat) (carry : Bool) (s : State) : (flagsArith raw w carry s).fault =
    s.fault := rfl
@[simp] theorem flagsArith_instructionsExecuted (raw : Int) (w : Nat) (carry : Bool) (s : State) : (flagsArith raw w carry s).instructionsExecuted =
    s.instructionsExecuted := rfl
@[simp] theorem flagsArith_cyclesExecuted (raw : Int) (w : Nat) (carry : Bool) (s : State) : (flagsArith raw w carry s).cyclesExecuted =
    s.cyclesExecuted := rfl
@[simp] theorem flagsArith_mode (raw : Int) (w : Nat) (carry : Bool) (s : State) : (flagsArith raw w carry s).mode =
    s.mode := rfl
@[simp] theorem flagsArith_mem (raw : Int) (w : Nat) (carry : Bool) (s : State) : (flagsArith raw w carry s).mem =
    s.mem := rfl
@[simp] theorem flagsArith_config (raw : Int) (w : Nat) (carry : Bool) (s : State) : (flagsArith raw w carry s).config =
    s.config := rfl
@[simp] theorem flagsArith_sysHandler (raw : Int) (w : Nat) (carry : Bool) (s : State) : (flagsArith raw w carry s).sysHandler =
    s.sysHandler := rfl
@[simp] theorem flagsArith_draws (raw : Int) (w : Nat) (carry : Bool) (s : State) : (flagsArith raw w carry s).draws =
    s.draws + 1 := rfl

/-! ### `State.afterHandler` and `State.arch` -/

@[simp] theorem State.afterHandler_a (s : State) (writesPc : Bool) (u : ArchState) :
    (s.afterHandler writesPc u).a = u.a := rfl
@[simp] theorem State.afterHandler_b (s : State) (writesPc : Bool) (u : ArchState) :
    (s.afterHandler writesPc u).b = u.b := rfl
@[simp] theorem State.afterHandler_c (s : State) (writesPc : Bool) (u : ArchState) :
    (s.afterHandler writesPc u).c = u.c := rfl
@[simp] theorem State.afterHandler_d (s : State) (writesPc : Bool) (u : ArchState) :
    (s.afterHandler writesPc u).d = u.d := rfl
@[simp] theorem State.afterHandler_e (s : State) (writesPc : Bool) (u : ArchState) :
    (s.afterHandler writesPc u).e = u.e := rfl
@[simp] theorem State.afterHandler_f (s : State) (writesPc : Bool) (u : ArchState) :
    (s.afterHandler writesPc u).f = u.f := rfl
@[simp] theorem State.afterHandler_da (s : State) (writesPc : Bool) (u : ArchState) :
    (s.afterHandler writesPc u).da = u.da := rfl
@[simp] theorem State.afterHandler_db (s : State) (writesPc : Bool) (u : ArchState) :
    (s.afterHandler writesPc u).db = u.db := rfl
@[simp] theorem State.afterHandler_idx (s : State) (writesPc : Bool) (u : ArchState) :
    (s.afterHandler writesPc u).idx = u.idx := rfl
@[simp] theorem State.afterHandler_idy (s : State) (writesPc : Bool) (u : ArchState) :
    (s.afterHandler writesPc u).idy = u.idy := rfl
@[simp] theorem State.afterHandler_pc (s : State) (writesPc : Bool) (u : ArchState) :
    (s.afterHandler writesPc u).pc = if writesPc then u.pc else s.pc := rfl
@[simp] theorem State.afterHandler_sp (s : State) (writesPc : Bool) (u : ArchState) :
    (s.afterHandler writesPc u).sp = u.sp := rfl
@[simp] theorem State.afterHandler_flags (s : State) (writesPc : Bool) (u : ArchState) :
    (s.afterHandler writesPc u).flags = u.flags := rfl
@[simp] theorem State.afterHandler_running (s : State) (writesPc : Bool) (u : ArchState) :
    (s.afterHandler writesPc u).running = s.running := rfl
@[simp] theorem State.afterHandler_fault (s : State) (writesPc : Bool) (u : ArchState) :
    (s.afterHandler writesPc u).fault = s.fault := rfl
@[simp] theorem State.afterHandler_instructionsExecuted (s : State) (writesPc : Bool) (u : ArchState) :
    (s.afterHandler writesPc u).instructionsExecuted = s.instructionsExecuted := rfl
@[simp] theorem State.afterHandler_cyclesExecuted (s : State) (writesPc : Bool) (u : ArchState) :
    (s.afterHandler writesPc u).cyclesExecuted = s.cyclesExecuted := rfl
@[simp] theorem State.afterHandler_mode (s : State) (writesPc : Bool) (u : ArchState) :
    (s.afterHandler writesPc u).mode = s.mode := rfl
@[simp] theorem State.afterHandler_mem (s : State) (writesPc : Bool) (u : ArchState) :
    (s.afterHandler writesPc u).mem = Memory.normal s.config.memSize u.mem := rfl
@[simp] theorem State.afterHandler_config (s : State) (writesPc : Bool) (u : ArchState) :
    (s.afterHandler writesPc u).config = s.config := rfl
@[simp] theorem State.afterHandler_sysHandler (s : State) (writesPc : Bool) (u : ArchState) :
    (s.afterHandler writesPc u).sysHandler = s.sysHandler := rfl
@[simp] theorem State.afterHandler_draws (s : State) (writesPc : Bool) (u : ArchState) :
    (s.afterHandler writesPc u).draws = s.draws := rfl

@[simp] theorem State.arch_a (s : State) : s.arch.a = s.a := rfl
@[simp] theorem State.arch_b (s : State) : s.arch.b = s.b := rfl
@[simp] theorem State.arch_c (s : State) : s.arch.c = s.c := rfl
@[simp] theorem State.arch_d (s : State) : s.arch.d = s.d := rfl
@[simp] theorem State.arch_e (s : State) : s.arch.e = s.e := rfl
@[simp] theorem State.arch_f (s : State) : s.arch.f = s.f := rfl
@[simp] theorem State.arch_da (s : State) : s.arch.da = s.da := rfl
@[simp] theorem State.arch_db (s : State) : s.arch.db = s.db := rfl
@[simp] theorem State.arch_idx (s : State) : s.arch.idx = s.idx := rfl
@[simp] theorem State.arch_idy (s : State) : s.arch.idy = s.idy := rfl
@[simp] theorem State.arch_pc (s : State) : s.arch.pc = s.pc := rfl
@[simp] theorem State.arch_sp (s : State) : s.arch.sp = s.sp := rfl
@[simp] theorem State.arch_flags (s : State) : s.arch.flags = s.flags := rfl
@[simp] theorem State.arch_mem (s : State) : s.arch.mem = s.mem := rfl

/-! ### Reading registers after an update -/

@[simp] theorem State.get8_set8_same (r : Reg8) (v : Byte) (s : State) : (s.set8 r v).get8 r = v := by
  cases r <;> rfl

theorem State.get8_set8_other {r x : Reg8} (v : Byte) (s : State) (h : x ≠ r) : (s.set8 r v).get8 x = s.get8 x := by
  cases x <;> simp [State.get8, h.symm]

@[simp] theorem State.get16_set16_same (p : Reg16) (v : Word) (s : State) : (s.set16 p v).get16 p = v := by
  cases p <;> rfl

theorem State.get16_set16_other {p x : Reg16} (v : Word) (s : State) (h : x ≠ p) :
    (s.set16 p v).get16 x = s.get16 x := by
  cases x <;> simp [State.get16, h.symm]

@[simp] theorem State.get8_set16 (x : Reg8) (p : Reg16) (v : Word) (s : State) : (s.set16 p v).get8 x = s.get8 x := by
  cases x <;> rfl

@[simp] theorem State.get16_set8 (x : Reg16) (r : Reg8) (v : Byte) (s : State) : (s.set8 r v).get16 x = s.get16 x := by
  cases x <;> rfl

@[simp] theorem State.get8_takeFault (x : Reg8) (k : Fault) (s : State) : (takeFault k s).get8 x = s.get8 x := by
  cases x <;> rfl

@[simp] theorem State.get16_takeFault (x : Reg16) (k : Fault) (s : State) : (takeFault k s).get16 x = s.get16 x := by
  cases x <;> rfl

@[simp] theorem State.get8_countInstruction (x : Reg8) (s : State) : (countInstruction s).get8 x = s.get8 x := by
  cases x <;> rfl

@[simp] theorem State.get16_countInstruction (x : Reg16) (s : State) : (countInstruction s).get16 x = s.get16 x := by
  cases x <;> rfl

@[simp] theorem State.get8_setZ (x : Reg8) {w : Nat} (v : BitVec w) (s : State) : (setZ v s).get8 x = s.get8 x := by
  cases x <;> rfl

@[simp] theorem State.get16_setZ (x : Reg16) {w : Nat} (v : BitVec w) (s : State) : (setZ v s).get16 x = s.get16 x := by
  cases x <;> rfl

@[simp] theorem State.get8_flagsArith (x : Reg8) (raw : Int) (w : Nat) (carry : Bool) (s : State) :
    (flagsArith raw w carry s).get8 x = s.get8 x := by cases x <;> rfl

@[simp] theorem State.get16_flagsArith (x : Reg16) (raw : Int) (w : Nat) (carry : Bool) (s : State) :
    (flagsArith raw w carry s).get16 x = s.get16 x := by cases x <;> rfl

@[simp] theorem State.get8_mem (x : Reg8) (m : Memory) (s : State) :
    State.get8 x { s with mem := m } = s.get8 x := by cases x <;> rfl

@[simp] theorem State.get16_mem (x : Reg16) (m : Memory) (s : State) :
    State.get16 x { s with mem := m } = s.get16 x := by cases x <;> rfl

@[simp] theorem State.get8_running (x : Reg8) (b : Bool) (s : State) :
    State.get8 x { s with running := b } = s.get8 x := by cases x <;> rfl

@[simp] theorem State.get16_running (x : Reg16) (b : Bool) (s : State) :
    State.get16 x { s with running := b } = s.get16 x := by cases x <;> rfl

end Sys2Proof.Machine
end

