-- ==== Sys2Proof/Laws/Flags.lean ====
section
/-!
SUPPORT. What each ALU primitive computes, in bit-vector terms: its value and the flags it leaves (42_alu.md R111 to
R118). Each lemma says everything the primitive does; later proofs cite it instead of unfolding the primitive.
-/

namespace Sys2Proof.Machine

variable {w : Nat}

theorem ofInt_toNat (v : BitVec w) : BitVec.ofInt w v.toNat = v := by simp

theorem ofInt_add (d r : BitVec w) : BitVec.ofInt w ((d.toNat : Int) + r.toNat) = d + r := by
  rw [BitVec.ofInt_add]
  simp

theorem ofInt_sub (d r : BitVec w) : BitVec.ofInt w ((d.toNat : Int) - r.toNat) = d - r := by
  rw [Int.sub_eq_add_neg, BitVec.ofInt_add, BitVec.ofInt_neg]
  simp [BitVec.sub_eq_add_neg]

/-- R111: the sum modulo 2^w; Carry exactly when the sum passes the width mask. -/
theorem aluAdd_eq (d r : BitVec w) (s : State) :
    aluAdd d r s = (d + r, { s with
      flags := { z := d + r == 0#w, c := decide (d.toNat + r.toNat > widthMask w),
                 o := Config.overflowDraw s.draws, n := (d + r).msb }
      draws := s.draws + 1 }) := by
  simp only [aluAdd, flagsArith, ofInt_add]

/-- R112: the difference modulo 2^w; Carry is the borrow. -/
theorem aluSub_eq (d r : BitVec w) (s : State) :
    aluSub d r s = (d - r, { s with
      flags := { z := d - r == 0#w, c := decide (d.toNat < r.toNat),
                 o := Config.overflowDraw s.draws, n := (d - r).msb }
      draws := s.draws + 1 }) := by
  simp only [aluSub, flagsArith, ofInt_sub]

/-- R113: Zero and Negative from the result, Carry cleared. -/
theorem aluLogic_eq (res : BitVec w) (s : State) :
    aluLogic res s = (res, { s with
      flags := { z := res == 0#w, c := false, o := Config.overflowDraw s.draws, n := res.msb }
      draws := s.draws + 1 }) := by
  simp only [aluLogic, flagsArith, ofInt_toNat]

/-- R114: the complement, Carry unchanged. -/
theorem aluNot_eq (v : BitVec w) (s : State) :
    aluNot v s = (~~~v, { s with
      flags := { z := ~~~v == 0#w, c := s.flags.c, o := Config.overflowDraw s.draws, n := (~~~v).msb }
      draws := s.draws + 1 }) := by
  have h : v ^^^ BitVec.ofNat w (widthMask w) = ~~~v := by
    have : BitVec.ofNat w (widthMask w) = BitVec.allOnes w := by
      simp [widthMask, BitVec.allOnes, BitVec.ofNatLT_eq_ofNat]
    rw [this, BitVec.xor_allOnes]
  simp only [aluNot, flagsArith, h, ofInt_toNat]

/-- R115: bit 0 is filled with 0, the outgoing bit 7 goes to Carry. -/
theorem aluShl_eq (v : Byte) (s : State) :
    aluShl v s = (v <<< 1, { s with
      flags := { z := v <<< 1 == 0#8, c := v.getLsbD 7, o := Config.overflowDraw s.draws, n := (v <<< 1).msb }
      draws := s.draws + 1 }) := by
  have h : BitVec.ofNat 8 (v.toNat * 2) = v <<< 1 := by
    apply BitVec.eq_of_toNat_eq
    simp [Nat.shiftLeft_eq]
  simp only [aluShl, flagsArith, h, ofInt_toNat]

/-- R116: bit 7 is filled with 0, so Negative is clear; the outgoing bit 0 goes to Carry. -/
theorem aluShr_eq (v : Byte) (s : State) :
    aluShr v s = (v >>> 1, { s with
      flags := { z := v >>> 1 == 0#8, c := v.getLsbD 0, o := Config.overflowDraw s.draws, n := false }
      draws := s.draws + 1 }) := by
  have h : (v >>> 1).msb = false := by
    rw [BitVec.msb_eq_decide]
    have := v.isLt
    simp [Nat.shiftRight_eq_div_pow]
    omega
  simp only [aluShr, flagsArith, ofInt_toNat, h]

/-- R118: the flags of the difference, and no register. -/
theorem aluCompare_eq (x y : BitVec w) (s : State) :
    aluCompare x y s = { s with
      flags := { z := x - y == 0#w, c := decide (x.toNat < y.toNat),
                 o := Config.overflowDraw s.draws, n := (x - y).msb }
      draws := s.draws + 1 } := by
  rw [aluCompare, aluSub_eq]

/-! ### Load-class writes -/

/-- R37: what a load-class write of an 8-bit register leaves. -/
theorem State.put8_eq (r : Reg8) (v : Byte) (s : State) :
    s.put8 r v = { s.set8 r v with flags := { s.flags with z := v == 0#8 } } := rfl

/-- R37: a load-class write of DA or DB sets Zero from all 16 bits. -/
theorem State.put16_pair {p : Reg16} (h : p = .da ∨ p = .db) (v : Word) (s : State) :
    s.put16 p v = { s.set16 p v with flags := { s.flags with z := v == 0#16 } } := by
  rcases h with rfl | rfl <;> rfl

/-- R37: a write of IDX, IDY, PC or SP writes no flag. -/
theorem State.put16_address {p : Reg16} (h : p ≠ .da ∧ p ≠ .db) (v : Word) (s : State) :
    s.put16 p v = s.set16 p v := by
  cases p <;> simp_all [State.put16]

@[simp] theorem State.put16_mem (p : Reg16) (v : Word) (s : State) : (s.put16 p v).mem = s.mem := by cases p <;> rfl
@[simp] theorem State.put16_config (p : Reg16) (v : Word) (s : State) : (s.put16 p v).config = s.config := by
  cases p <;> rfl
@[simp] theorem State.put16_running (p : Reg16) (v : Word) (s : State) : (s.put16 p v).running = s.running := by
  cases p <;> rfl
@[simp] theorem State.put16_fault (p : Reg16) (v : Word) (s : State) : (s.put16 p v).fault = s.fault := by
  cases p <;> rfl
@[simp] theorem State.put16_instructionsExecuted (p : Reg16) (v : Word) (s : State) :
    (s.put16 p v).instructionsExecuted = s.instructionsExecuted := by cases p <;> rfl
@[simp] theorem State.put16_cyclesExecuted (p : Reg16) (v : Word) (s : State) :
    (s.put16 p v).cyclesExecuted = s.cyclesExecuted := by cases p <;> rfl

end Sys2Proof.Machine
end

