-- ==== Sys2Proof/Laws/Memory.lean ====
section
/-!
SUPPORT. The laws of the byte array (Machine/Memory.lean): read after write, the canonical form, and that equal reads
mean equal memories.
-/

namespace Sys2Proof.Machine

/-! ### The list of entries -/

theorem Memory.find_erase (m : List Host.Cell) (a b : Nat) :
    Memory.find (Memory.erase m a) b = if b = a then none else Memory.find m b := by
  induction m with
  | nil => simp [Memory.erase, Memory.find]
  | cons c m ih =>
    unfold Memory.erase at ih ⊢
    by_cases h : c.1 = a
    · rw [List.filter_cons_of_neg (by simp [h]), ih]
      by_cases hb : b = a
      · simp [hb]
      · simp [hb, Memory.find, h, Ne.symm hb]
    · rw [List.filter_cons_of_pos (by simp [h])]
      by_cases hb : b = a
      · subst hb
        simpa [Memory.find, h] using ih
      · simp only [hb, if_false] at ih ⊢
        simp [Memory.find, ih]

theorem Memory.find_insert (m : List Host.Cell) (a b : Nat) (v : Byte) :
    Memory.find (Memory.insert m a v) b = if b = a then some v else Memory.find m b := by
  induction m with
  | nil =>
    simp [Memory.insert, Memory.find, eq_comm]
  | cons c m ih =>
    unfold Memory.insert
    by_cases hb : b = a
    · subst hb
      split
      · simp [Memory.find]
      · split
        · simp [Memory.find]
        · rename_i h1 h2
          simpa [Memory.find, Ne.symm h2] using ih
    · split
      · simp [Memory.find, Ne.symm hb]
      · split
        · rename_i h1 h2
          simp [Memory.find, Ne.symm hb, ← h2]
        · simp only [hb, if_false] at ih
          simp [Memory.find, ih]

/-! ### Read after write -/

@[simp] theorem Memory.unlisted_launch (a : Nat) : Memory.unlisted Memory.launch a = Config.launchByte a := rfl

@[simp] theorem Memory.read_launch (a : Nat) : Memory.read Memory.launch a = Config.launchByte a := rfl

/-- Every byte of a filled memory is the byte it was filled with (20_memory.md R67). -/
@[simp] theorem Memory.read_filled (v : Byte) (a : Nat) : Memory.read (Memory.filled v) a = v := rfl

@[simp] theorem Memory.fill_write (m : Memory) (a : Nat) (v : Byte) : (Memory.write m a v).fill = m.fill := rfl

/-- What a byte reads after a write, in one equation: the value written at its address, and every other byte as before
(20_memory.md R60). -/
theorem Memory.read_write (m : Memory) (a b : Nat) (v : Byte) :
    Memory.read (Memory.write m a v) b = if b = a then v else Memory.read m b := by
  unfold Memory.read Memory.write Memory.unlisted
  by_cases hv : m.fill = some v
  · simp only [hv, if_true, Memory.find_erase]
    split <;> simp
  · simp only [hv, if_false, Memory.find_insert]
    split <;> simp

@[simp] theorem Memory.read_write_same (m : Memory) (a : Nat) (v : Byte) :
    Memory.read (Memory.write m a v) a = v := by simp [Memory.read_write]

theorem Memory.read_write_other (m : Memory) {a b : Nat} (v : Byte) (hab : b ≠ a) :
    Memory.read (Memory.write m a v) b = Memory.read m b := by simp [Memory.read_write, hab]

/-! ### The canonical form -/

@[simp] theorem Memory.wf_launch : Memory.wf Memory.launch = true := rfl

@[simp] theorem Memory.wf_filled (v : Byte) : Memory.wf (Memory.filled v) = true := rfl

theorem Memory.canonical_cons (fill : Option Byte) (c : Host.Cell) (m : List Host.Cell) :
    Memory.canonical fill (c :: m) = true ↔
      fill ≠ some c.2 ∧ (∀ x ∈ m, c.1 < x.1) ∧ Memory.canonical fill m = true := by
  simp [Memory.canonical, and_assoc]

theorem Memory.mem_erase {m : List Host.Cell} {a : Nat} {x : Host.Cell} :
    x ∈ Memory.erase m a ↔ x ∈ m ∧ x.1 ≠ a := by simp [Memory.erase]

theorem Memory.mem_insert {m : List Host.Cell} {a : Nat} {v : Byte} {x : Host.Cell}
    (h : x ∈ Memory.insert m a v) : x = (a, v) ∨ x ∈ m := by
  induction m with
  | nil => exact .inl (by simpa [Memory.insert] using h)
  | cons c m ih =>
    unfold Memory.insert at h
    split at h
    · simpa using h
    · split at h
      · rcases List.mem_cons.mp h with h | h
        · exact .inl h
        · exact .inr (List.mem_cons_of_mem _ h)
      · rcases List.mem_cons.mp h with h | h
        · exact .inr (h ▸ List.mem_cons_self)
        · rcases ih h with h | h
          · exact .inl h
          · exact .inr (List.mem_cons_of_mem _ h)

theorem Memory.mem_write {m : Memory} {a : Nat} {v : Byte} {x : Host.Cell}
    (h : x ∈ (Memory.write m a v).cells) : x = (a, v) ∨ x ∈ m.cells := by
  unfold Memory.write at h
  dsimp only at h
  split at h
  · exact .inr (Memory.mem_erase.mp h).1
  · exact Memory.mem_insert h

theorem Memory.canonical_erase {fill : Option Byte} {m : List Host.Cell} (a : Nat)
    (h : Memory.canonical fill m = true) : Memory.canonical fill (Memory.erase m a) = true := by
  induction m with
  | nil => rfl
  | cons c m ih =>
    obtain ⟨hv, hlt, hm⟩ := (Memory.canonical_cons fill c m).mp h
    by_cases hc : c.1 = a
    · simpa [Memory.erase, hc] using ih hm
    · have : Memory.erase (c :: m) a = c :: Memory.erase m a := by simp [Memory.erase, hc]
      rw [this, Memory.canonical_cons]
      exact ⟨hv, fun x hx => hlt x (Memory.mem_erase.mp hx).1, ih hm⟩

theorem Memory.canonical_insert {fill : Option Byte} {m : List Host.Cell} (a : Nat) {v : Byte} (hv : fill ≠ some v)
    (h : Memory.canonical fill m = true) : Memory.canonical fill (Memory.insert m a v) = true := by
  induction m with
  | nil => simp [Memory.insert, hv, Memory.canonical]
  | cons c m ih =>
    obtain ⟨hc, hlt, hm⟩ := (Memory.canonical_cons fill c m).mp h
    unfold Memory.insert
    split
    · rename_i hac
      refine (Memory.canonical_cons fill _ _).mpr ⟨hv, fun x hx => ?_, h⟩
      rcases List.mem_cons.mp hx with hx | hx
      · exact hx ▸ hac
      · exact Nat.lt_trans hac (hlt x hx)
    · split
      · rename_i hac
        exact (Memory.canonical_cons fill _ _).mpr ⟨hv, fun x hx => hac ▸ hlt x hx, hm⟩
      · rename_i h1 h2
        refine (Memory.canonical_cons fill _ _).mpr ⟨hc, fun x hx => ?_, ih hm⟩
        rcases Memory.mem_insert hx with hx | hx
        · subst hx
          show c.1 < a
          omega
        · exact hlt x hx

/-- A write keeps the canonical form. -/
theorem Memory.wf_write {m : Memory} (a : Nat) (v : Byte) (h : Memory.wf m = true) :
    Memory.wf (Memory.write m a v) = true := by
  unfold Memory.wf Memory.write at *
  dsimp only
  split
  · exact Memory.canonical_erase a h
  · rename_i hv
    exact Memory.canonical_insert a hv h

theorem Memory.inRange_iff {size : Nat} {m : Memory} :
    Memory.inRange size m = true ↔ ∀ x ∈ m.cells, x.1 < size := by simp [Memory.inRange]

/-- A write inside the array leaves every entry inside it. -/
theorem Memory.inRange_write {size : Nat} {m : Memory} {a : Nat} (v : Byte) (ha : a < size)
    (h : Memory.inRange size m = true) : Memory.inRange size (Memory.write m a v) = true := by
  rw [Memory.inRange_iff] at h ⊢
  intro x hx
  rcases Memory.mem_write hx with hx | hx
  · exact hx ▸ ha
  · exact h x hx

/-! ### Several bytes -/

theorem Memory.wf_writeBytes {m : Memory} (a : Nat) (vs : List Byte) (h : Memory.wf m = true) :
    Memory.wf (Memory.writeBytes m a vs) = true := by
  induction vs generalizing m a with
  | nil => exact h
  | cons v vs ih => exact ih (a + 1) (Memory.wf_write a v h)

theorem Memory.inRange_writeBytes {size : Nat} {m : Memory} {a : Nat} {vs : List Byte}
    (ha : a + vs.length ≤ size) (h : Memory.inRange size m = true) :
    Memory.inRange size (Memory.writeBytes m a vs) = true := by
  induction vs generalizing m a with
  | nil => exact h
  | cons v vs ih =>
    simp only [List.length_cons] at ha
    exact ih (by omega) (Memory.inRange_write v (by omega) h)

theorem Memory.wf_writeCells {size : Nat} {m : Memory} (cs : List Host.Cell) (h : Memory.wf m = true) :
    Memory.wf (Memory.writeCells size m cs) = true := by
  induction cs with
  | nil => exact h
  | cons c cs ih =>
    simp only [Memory.writeCells]
    split
    · exact Memory.wf_write _ _ ih
    · exact ih

theorem Memory.inRange_writeCells {size : Nat} {m : Memory} (cs : List Host.Cell)
    (h : Memory.inRange size m = true) : Memory.inRange size (Memory.writeCells size m cs) = true := by
  induction cs with
  | nil => exact h
  | cons c cs ih =>
    simp only [Memory.writeCells]
    split
    · rename_i hc
      exact Memory.inRange_write _ hc ih
    · exact ih

/-- What a byte inside the array reads after the entries are written: the first entry for it, where there is one. -/
theorem Memory.read_writeCells {size : Nat} (m : Memory) (cs : List Host.Cell) {a : Nat} (ha : a < size) :
    Memory.read (Memory.writeCells size m cs) a = (Memory.find cs a).getD (Memory.read m a) := by
  induction cs with
  | nil => rfl
  | cons c cs ih =>
    simp only [Memory.writeCells, Memory.find]
    by_cases h : c.1 = a
    · subst h
      simp [ha]
    · simp only [h, if_false, ← ih]
      split
      · exact Memory.read_write_other _ _ (Ne.symm h)
      · rfl

/-- The normal form is canonical, lies in the array, and reads as the contents it was given. -/
theorem Memory.wf_normal (size : Nat) (m : Memory) : Memory.wf (Memory.normal size m) = true :=
  Memory.wf_writeCells _ rfl

theorem Memory.inRange_normal (size : Nat) (m : Memory) : Memory.inRange size (Memory.normal size m) = true :=
  Memory.inRange_writeCells _ rfl

theorem Memory.read_normal {size : Nat} (m : Memory) {a : Nat} (ha : a < size) :
    Memory.read (Memory.normal size m) a = Memory.read m a := by
  rw [Memory.normal, Memory.read_writeCells _ _ ha]
  rfl

/-! ### Equal reads mean equal memories -/

theorem Memory.find_of_below {m : List Host.Cell} {a : Nat} (h : ∀ x ∈ m, a < x.1) : Memory.find m a = none := by
  induction m with
  | nil => rfl
  | cons c m ih =>
    have hc : c.1 ≠ a := Nat.ne_of_gt (h c List.mem_cons_self)
    simpa [Memory.find, hc] using ih fun x hx => h x (List.mem_cons_of_mem _ hx)

/-- Two canonical lists with the same entries are the same list. -/
theorem Memory.cells_ext {fill : Option Byte} {m n : List Host.Cell} (hm : Memory.canonical fill m = true)
    (hn : Memory.canonical fill n = true) (h : ∀ a, Memory.find m a = Memory.find n a) : m = n := by
  induction m generalizing n with
  | nil =>
    cases n with
    | nil => rfl
    | cons c n => simpa [Memory.find] using h c.1
  | cons c m ih =>
    obtain ⟨-, hlt, hm'⟩ := (Memory.canonical_cons fill c m).mp hm
    cases n with
    | nil => simpa [Memory.find] using h c.1
    | cons d n =>
      obtain ⟨-, hlt', hn'⟩ := (Memory.canonical_cons fill d n).mp hn
      have key : c.1 = d.1 := by
        rcases Nat.lt_trichotomy c.1 d.1 with hl | he | hl
        · have h1 : Memory.find (d :: n) c.1 = none :=
            Memory.find_of_below fun x hx => by
              rcases List.mem_cons.mp hx with hx | hx
              · exact hx ▸ hl
              · exact Nat.lt_trans hl (hlt' x hx)
          exact absurd (h1 ▸ h c.1) (by simp [Memory.find])
        · exact he
        · have h1 : Memory.find (c :: m) d.1 = none :=
            Memory.find_of_below fun x hx => by
              rcases List.mem_cons.mp hx with hx | hx
              · exact hx ▸ hl
              · exact Nat.lt_trans hl (hlt x hx)
          exact absurd (h1 ▸ h d.1) (by simp [Memory.find])
      have val : c.2 = d.2 := by simpa [Memory.find, key] using h c.1
      have tail : m = n := by
        refine ih hm' hn' fun a => ?_
        by_cases ha : c.1 = a
        · rw [Memory.find_of_below fun x hx => ha ▸ hlt x hx,
            Memory.find_of_below fun x hx => (key.symm.trans ha) ▸ hlt' x hx]
        · have := h a
          simpa [Memory.find, ha, key ▸ ha] using this
      rw [tail, show c = d from Prod.ext key val]

theorem Memory.find_ne_fill {fill : Option Byte} {m : List Host.Cell} {a : Nat} {v : Byte}
    (hm : Memory.canonical fill m = true) (h : Memory.find m a = some v) : fill ≠ some v := by
  induction m with
  | nil => simp [Memory.find] at h
  | cons c m ih =>
    obtain ⟨hc, -, hm'⟩ := (Memory.canonical_cons fill c m).mp hm
    simp only [Memory.find] at h
    split at h
    · exact Option.some.inj h ▸ hc
    · exact ih hm' h

/-- Two filled memories in canonical form that read the same everywhere are the same data. -/
theorem Memory.ext_of_wf {m n : Memory} {v : Byte} (hm : Memory.wf m = true) (hn : Memory.wf n = true)
    (hmf : m.fill = some v) (hnf : n.fill = some v) (h : ∀ a, Memory.read m a = Memory.read n a) : m = n := by
  obtain ⟨mf, mc⟩ := m
  obtain ⟨nf, nc⟩ := n
  obtain rfl : mf = some v := hmf
  obtain rfl : nf = some v := hnf
  congr 1
  refine Memory.cells_ext hm hn fun a => ?_
  have ha := h a
  simp only [Memory.read, Memory.unlisted, Option.getD_some] at ha
  cases h1 : Memory.find mc a with
  | none =>
    cases h2 : Memory.find nc a with
    | none => rfl
    | some y =>
      rw [h1, h2] at ha
      exact absurd (congrArg some ha) (Memory.find_ne_fill hn h2)
  | some x =>
    cases h2 : Memory.find nc a with
    | none =>
      rw [h1, h2] at ha
      exact absurd (congrArg some ha.symm) (Memory.find_ne_fill hm h1)
    | some y => simpa [h1, h2] using ha

end Sys2Proof.Machine
end

