-- ==== Sys2Proof/Laws/Ops.lean ====
section
/-!
SUPPORT. What each shared operation can do, said once: its outcome where its accesses lie in memory, its fault where one
does not. Later proofs cite these instead of unfolding the operation.
-/

namespace Sys2Proof.Machine

variable {α β : Type}

@[simp] theorem Effect.andThen_done (v : α) (s : State) (k : α → State → Effect β) :
    (Effect.done v s).andThen k = k v s := rfl

@[simp] theorem Effect.andThen_raise (f : Fault) (s : State) (k : α → State → Effect β) :
    (Effect.raise f s : Effect α).andThen k = .raise f s := rfl

@[simp] theorem finish_done (u : Unit) (s : State) : finish (.done u s) = .next (countInstruction s) := rfl

@[simp] theorem finish_raise (k : Fault) (s : State) : finish (.raise k s) = .next (takeFault k s) := rfl

/-- The end of an instruction is always a next state. -/
theorem finish_next (r : Effect Unit) : ∃ t, finish r = .next t := by
  cases r with
  | done v s => exact ⟨_, rfl⟩
  | raise k s => exact ⟨_, rfl⟩

/-! ### Memory -/

theorem readByte_in {a : Nat} {s : State} (h : a < s.config.memSize) :
    readByte a s = .done (Memory.read s.mem a) s := by simp [readByte, h]

theorem readByte_out {a : Nat} {s : State} (h : s.config.memSize ≤ a) :
    readByte a s = .raise (.addressOutOfRange a) s := by simp [readByte, Nat.not_lt.mpr h]

theorem writeByte_in {a : Nat} {s : State} (v : Byte) (h : a < s.config.memSize) :
    writeByte a v s = .done () { s with mem := Memory.write s.mem a v } := by simp [writeByte, h]

theorem writeByte_out {a : Nat} {s : State} (v : Byte) (h : s.config.memSize ≤ a) :
    writeByte a v s = .raise (.addressOutOfRange a) s := by simp [writeByte, Nat.not_lt.mpr h]

/-- R54: a word read inside memory. -/
theorem readWord_in {a : Nat} {s : State} (h : a + 1 < s.config.memSize) :
    readWord a s = .done (concat (Memory.read s.mem (a + 1)) (Memory.read s.mem a)) s := by
  simp [readWord, readByte_in h, readByte_in (Nat.lt_of_succ_lt h)]

/-- R54: a word read whose low byte is outside memory records a. -/
theorem readWord_out {a : Nat} {s : State} (h : s.config.memSize ≤ a) :
    readWord a s = .raise (.addressOutOfRange a) s := by simp [readWord, readByte_out h]

/-- R54: a word read at the last byte of memory records a + 1. -/
theorem readWord_edge {a : Nat} {s : State} (h : a < s.config.memSize) (h1 : s.config.memSize ≤ a + 1) :
    readWord a s = .raise (.addressOutOfRange (a + 1)) s := by simp [readWord, readByte_in h, readByte_out h1]

/-- R55: a word write inside memory. -/
theorem writeWord_in {a : Nat} {s : State} (v : Word) (h : a + 1 < s.config.memSize) :
    writeWord a v s =
      .done () { s with mem := Memory.write (Memory.write s.mem a (lowByte v)) (a + 1) (highByte v) } := by
  have h1 := writeByte_in (s := { s with mem := Memory.write s.mem a (lowByte v) }) (highByte v) h
  simp only [writeWord, writeByte_in _ (Nat.lt_of_succ_lt h), Effect.andThen_done, h1]

/-- R53, R55: a word write whose low byte is outside memory records a and changes nothing. -/
theorem writeWord_out {a : Nat} {s : State} (v : Word) (h : s.config.memSize ≤ a) :
    writeWord a v s = .raise (.addressOutOfRange a) s := by simp [writeWord, writeByte_out _ h]

/-- R55: a word write at the last byte of memory records a + 1; its first byte is a free choice. -/
theorem writeWord_edge {a : Nat} {s : State} (v : Word) (h : a < s.config.memSize) (h1 : s.config.memSize ≤ a + 1) :
    writeWord a v s = .raise (.addressOutOfRange (a + 1))
      (partialWord s { s with mem := Memory.write s.mem a (lowByte v) }) := by
  have h2 := writeByte_out (s := { s with mem := Memory.write s.mem a (lowByte v) }) (highByte v) h1
  simp only [writeWord, writeByte_in _ h, Effect.andThen_done, h2]

/-- R55: the state of a partial word write, in one record: only memory and the draw counter can differ. -/
theorem partialWord_eq (s : State) (m : Memory) :
    partialWord s { s with mem := m } =
      { s with mem := if Config.partialWordWritten s.draws then m else s.mem, draws := s.draws + 1 } := rfl

/-! ### The stack -/

theorem push8_in {s : State} (v : Byte) (h : s.sp.toNat < s.config.memSize) :
    push8 v s = .done () (State.set16 .sp (s.sp - 1#16) { s with mem := Memory.write s.mem s.sp.toNat v }) := by
  simp [push8, writeByte_in v h]

theorem push8_out {s : State} (v : Byte) (h : s.config.memSize ≤ s.sp.toNat) :
    push8 v s = .raise (.addressOutOfRange s.sp.toNat) s := by simp [push8, writeByte_out v h]

theorem pop8_in {s : State} (h : (s.sp + 1#16).toNat < s.config.memSize) :
    pop8 s = .done (Memory.read s.mem (s.sp + 1#16).toNat) (s.set16 .sp (s.sp + 1#16)) := by
  have : (s.set16 .sp (s.sp + 1#16)).sp.toNat < (s.set16 .sp (s.sp + 1#16)).config.memSize := h
  simp only [pop8, readByte_in this]
  rfl

/-- R169: SP has been incremented when the read faults. -/
theorem pop8_out {s : State} (h : s.config.memSize ≤ (s.sp + 1#16).toNat) :
    pop8 s = .raise (.addressOutOfRange (s.sp + 1#16).toNat) (s.set16 .sp (s.sp + 1#16)) := by
  have : (s.set16 .sp (s.sp + 1#16)).config.memSize ≤ (s.set16 .sp (s.sp + 1#16)).sp.toNat := h
  simp only [pop8, readByte_out this]
  rfl

/-- R166: a word push inside memory, in one record. -/
theorem push16_in {s : State} (v : Word) (h : s.sp.toNat < s.config.memSize)
    (h1 : (s.sp - 1#16).toNat < s.config.memSize) :
    push16 v s = .done () { s with
      sp := s.sp - 2#16
      mem := Memory.write (Memory.write s.mem s.sp.toNat (highByte v)) (s.sp - 1#16).toNat (lowByte v) } := by
  rw [push16, push8_in _ h]
  simp only [Effect.andThen_done]
  rw [push8_in]
  · congr 1
    simp [State.set16, BitVec.sub_sub]
  · simpa using h1

/-- R166: a word push whose first byte is outside memory changes nothing. -/
theorem push16_out {s : State} (v : Word) (h : s.config.memSize ≤ s.sp.toNat) :
    push16 v s = .raise (.addressOutOfRange s.sp.toNat) s := by
  rw [push16, push8_out _ h]
  rfl

/-- R166: a word push whose second byte is outside memory has written the first and moved SP once. -/
theorem push16_edge {s : State} (v : Word) (h : s.sp.toNat < s.config.memSize)
    (h1 : s.config.memSize ≤ (s.sp - 1#16).toNat) :
    push16 v s = .raise (.addressOutOfRange (s.sp - 1#16).toNat) { s with
      sp := s.sp - 1#16
      mem := Memory.write s.mem s.sp.toNat (highByte v) } := by
  rw [push16, push8_in _ h]
  simp only [Effect.andThen_done]
  rw [push8_out]
  · simp [State.set16]
  · simpa using h1

/-- R167: a word pop inside memory, in one record. -/
theorem pop16_in {s : State} (h : (s.sp + 1#16).toNat < s.config.memSize)
    (h1 : (s.sp + 2#16).toNat < s.config.memSize) :
    pop16 s = .done (concat (Memory.read s.mem (s.sp + 2#16).toNat) (Memory.read s.mem (s.sp + 1#16).toNat))
      { s with sp := s.sp + 2#16 } := by
  have e : s.sp + 1#16 + 1#16 = s.sp + 2#16 := by bv_omega
  rw [pop16, pop8_in h]
  simp only [Effect.andThen_done]
  rw [pop8_in]
  · simp [e, State.set16]
  · simpa [e] using h1

/-- R167: a word pop whose first byte is outside memory keeps the first increment. -/
theorem pop16_out {s : State} (h : s.config.memSize ≤ (s.sp + 1#16).toNat) :
    pop16 s = .raise (.addressOutOfRange (s.sp + 1#16).toNat) { s with sp := s.sp + 1#16 } := by
  rw [pop16, pop8_out h]
  rfl

/-- R167: a word pop whose second byte is outside memory keeps both increments. -/
theorem pop16_edge {s : State} (h : (s.sp + 1#16).toNat < s.config.memSize)
    (h1 : s.config.memSize ≤ (s.sp + 2#16).toNat) :
    pop16 s = .raise (.addressOutOfRange (s.sp + 2#16).toNat) { s with sp := s.sp + 2#16 } := by
  have e : s.sp + 1#16 + 1#16 = s.sp + 2#16 := by bv_omega
  rw [pop16, pop8_in h]
  simp only [Effect.andThen_done]
  rw [pop8_out]
  · simp [e, State.set16]
  · simpa [e] using h1

/-! ### Signed displacements -/

/-- R9: the sign extension, as an integer modulo 2^16. -/
theorem sext16_toNat (d : Byte) : ((sext16 d).toNat : Int) = d.toInt % 65536 := by
  revert d
  decide

/-- R149: the target of a relative jump, as integers. -/
theorem relativeTarget_toNat (d : Byte) (s : State) :
    ((relativeTarget d s).toNat : Int) = (s.pc.toNat + d.toInt) % 65536 := by
  have := sext16_toNat d
  unfold relativeTarget
  rw [BitVec.toNat_add]
  omega

/-- R175: the effective address of the displaced mode, as integers. -/
theorem displacedAddr_toNat (p : Reg16) (d : Byte) (s : State) :
    (displacedAddr p d s : Int) = ((s.get16 p).toNat + d.toInt) % 65536 := by
  have := sext16_toNat d
  unfold displacedAddr
  rw [BitVec.toNat_add]
  omega

/-! ### Fetch -/

theorem fetch8_in {s : State} (h : s.pc.toNat < s.config.memSize) :
    fetch8 s = .done (Memory.read s.mem s.pc.toNat) (s.set16 .pc (s.pc + 1#16)) := by
  simp [fetch8, readByte_in h]

/-- R204: a fetch fault leaves pc at the octet that failed. -/
theorem fetch8_out {s : State} (h : s.config.memSize ≤ s.pc.toNat) :
    fetch8 s = .raise (.addressOutOfRange s.pc.toNat) s := by simp [fetch8, readByte_out h]

/-! ### Register-pair bytes -/

/-- R73: the codes 0 to 5 are A-F. -/
theorem reg8OfCode_eq_none {code : RegCode} : reg8OfCode code = none ↔ 6 ≤ code.toNat := by
  revert code
  decide

/-- R79: the destination field is checked first. -/
theorem withPair_dst {dst src : RegCode} (k : Reg8 → Reg8 → State → Effect Unit) (s : State) (h : 6 ≤ dst.toNat) :
    withPair dst src k s = .raise (.invalidRegisterIdentifier dst) s := by
  simp [withPair, reg8OfCode_eq_none.mpr h]

/-- R79: then the source field. -/
theorem withPair_src {dst src : RegCode} {x : Reg8} (k : Reg8 → Reg8 → State → Effect Unit) (s : State)
    (hd : reg8OfCode dst = some x) (h : 6 ≤ src.toNat) :
    withPair dst src k s = .raise (.invalidRegisterIdentifier src) s := by
  simp [withPair, hd, reg8OfCode_eq_none.mpr h]

theorem withPair_valid {dst src : RegCode} {x y : Reg8} (k : Reg8 → Reg8 → State → Effect Unit) (s : State)
    (hd : reg8OfCode dst = some x) (hs : reg8OfCode src = some y) : withPair dst src k s = k x y s := by
  simp [withPair, hd, hs]

end Sys2Proof.Machine
end

