-- ==== Sys2Proof/Laws/PerInstr.lean ====
section
/-!
SUPPORT. Facts proved instruction by instruction. OctetCount: an instruction's encoding has as many octets as its
format says (30_encoding.md R70, R71, R81).
-/

namespace Sys2Proof.Laws

/-- The encoding of `i` has the length of its format. -/
def OctetCount.Statement (i : Instr) : Prop := (encode i).length = i.format.octets

theorem OctetCount.nop : OctetCount.Statement .nop := rfl
theorem OctetCount.halt : OctetCount.Statement .halt := rfl
theorem OctetCount.sys (n : Byte) : OctetCount.Statement (.sys n) := rfl
theorem OctetCount.ldaImm (n : Byte) : OctetCount.Statement (.ldaImm n) := rfl
theorem OctetCount.ldbImm (n : Byte) : OctetCount.Statement (.ldbImm n) := rfl
theorem OctetCount.ldcImm (n : Byte) : OctetCount.Statement (.ldcImm n) := rfl
theorem OctetCount.lddImm (n : Byte) : OctetCount.Statement (.lddImm n) := rfl
theorem OctetCount.ldeImm (n : Byte) : OctetCount.Statement (.ldeImm n) := rfl
theorem OctetCount.ldfImm (n : Byte) : OctetCount.Statement (.ldfImm n) := rfl
theorem OctetCount.lddaImm (nn : Word) : OctetCount.Statement (.lddaImm nn) := rfl
theorem OctetCount.lddbImm (nn : Word) : OctetCount.Statement (.lddbImm nn) := rfl
theorem OctetCount.ldaAbs (a : Word) : OctetCount.Statement (.ldaAbs a) := rfl
theorem OctetCount.ldbAbs (a : Word) : OctetCount.Statement (.ldbAbs a) := rfl
theorem OctetCount.ldcAbs (a : Word) : OctetCount.Statement (.ldcAbs a) := rfl
theorem OctetCount.lddAbs (a : Word) : OctetCount.Statement (.lddAbs a) := rfl
theorem OctetCount.ldeAbs (a : Word) : OctetCount.Statement (.ldeAbs a) := rfl
theorem OctetCount.ldfAbs (a : Word) : OctetCount.Statement (.ldfAbs a) := rfl
theorem OctetCount.lddaAbs (a : Word) : OctetCount.Statement (.lddaAbs a) := rfl
theorem OctetCount.lddbAbs (a : Word) : OctetCount.Statement (.lddbAbs a) := rfl
theorem OctetCount.staAbs (a : Word) : OctetCount.Statement (.staAbs a) := rfl
theorem OctetCount.stbAbs (a : Word) : OctetCount.Statement (.stbAbs a) := rfl
theorem OctetCount.stcAbs (a : Word) : OctetCount.Statement (.stcAbs a) := rfl
theorem OctetCount.stdAbs (a : Word) : OctetCount.Statement (.stdAbs a) := rfl
theorem OctetCount.steAbs (a : Word) : OctetCount.Statement (.steAbs a) := rfl
theorem OctetCount.stfAbs (a : Word) : OctetCount.Statement (.stfAbs a) := rfl
theorem OctetCount.stdaAbs (a : Word) : OctetCount.Statement (.stdaAbs a) := rfl
theorem OctetCount.stdbAbs (a : Word) : OctetCount.Statement (.stdbAbs a) := rfl
theorem OctetCount.incA : OctetCount.Statement .incA := rfl
theorem OctetCount.incB : OctetCount.Statement .incB := rfl
theorem OctetCount.incC : OctetCount.Statement .incC := rfl
theorem OctetCount.incD : OctetCount.Statement .incD := rfl
theorem OctetCount.incE : OctetCount.Statement .incE := rfl
theorem OctetCount.incF : OctetCount.Statement .incF := rfl
theorem OctetCount.incDa : OctetCount.Statement .incDa := rfl
theorem OctetCount.incDb : OctetCount.Statement .incDb := rfl
theorem OctetCount.decA : OctetCount.Statement .decA := rfl
theorem OctetCount.decB : OctetCount.Statement .decB := rfl
theorem OctetCount.decC : OctetCount.Statement .decC := rfl
theorem OctetCount.decD : OctetCount.Statement .decD := rfl
theorem OctetCount.decE : OctetCount.Statement .decE := rfl
theorem OctetCount.decF : OctetCount.Statement .decF := rfl
theorem OctetCount.decDa : OctetCount.Statement .decDa := rfl
theorem OctetCount.decDb : OctetCount.Statement .decDb := rfl
theorem OctetCount.notA : OctetCount.Statement .notA := rfl
theorem OctetCount.notB : OctetCount.Statement .notB := rfl
theorem OctetCount.notC : OctetCount.Statement .notC := rfl
theorem OctetCount.notD : OctetCount.Statement .notD := rfl
theorem OctetCount.notE : OctetCount.Statement .notE := rfl
theorem OctetCount.notF : OctetCount.Statement .notF := rfl
theorem OctetCount.shlA : OctetCount.Statement .shlA := rfl
theorem OctetCount.shlB : OctetCount.Statement .shlB := rfl
theorem OctetCount.shlC : OctetCount.Statement .shlC := rfl
theorem OctetCount.shlD : OctetCount.Statement .shlD := rfl
theorem OctetCount.shlE : OctetCount.Statement .shlE := rfl
theorem OctetCount.shlF : OctetCount.Statement .shlF := rfl
theorem OctetCount.shrA : OctetCount.Statement .shrA := rfl
theorem OctetCount.shrB : OctetCount.Statement .shrB := rfl
theorem OctetCount.shrC : OctetCount.Statement .shrC := rfl
theorem OctetCount.shrD : OctetCount.Statement .shrD := rfl
theorem OctetCount.shrE : OctetCount.Statement .shrE := rfl
theorem OctetCount.shrF : OctetCount.Statement .shrF := rfl
theorem OctetCount.pushA : OctetCount.Statement .pushA := rfl
theorem OctetCount.pushB : OctetCount.Statement .pushB := rfl
theorem OctetCount.pushC : OctetCount.Statement .pushC := rfl
theorem OctetCount.pushD : OctetCount.Statement .pushD := rfl
theorem OctetCount.pushE : OctetCount.Statement .pushE := rfl
theorem OctetCount.pushF : OctetCount.Statement .pushF := rfl
theorem OctetCount.pushDa : OctetCount.Statement .pushDa := rfl
theorem OctetCount.pushDb : OctetCount.Statement .pushDb := rfl
theorem OctetCount.popA : OctetCount.Statement .popA := rfl
theorem OctetCount.popB : OctetCount.Statement .popB := rfl
theorem OctetCount.popC : OctetCount.Statement .popC := rfl
theorem OctetCount.popD : OctetCount.Statement .popD := rfl
theorem OctetCount.popE : OctetCount.Statement .popE := rfl
theorem OctetCount.popF : OctetCount.Statement .popF := rfl
theorem OctetCount.popDa : OctetCount.Statement .popDa := rfl
theorem OctetCount.popDb : OctetCount.Statement .popDb := rfl
theorem OctetCount.cmpAImm (n : Byte) : OctetCount.Statement (.cmpAImm n) := rfl
theorem OctetCount.cmpBImm (n : Byte) : OctetCount.Statement (.cmpBImm n) := rfl
theorem OctetCount.cmpCImm (n : Byte) : OctetCount.Statement (.cmpCImm n) := rfl
theorem OctetCount.cmpDImm (n : Byte) : OctetCount.Statement (.cmpDImm n) := rfl
theorem OctetCount.cmpEImm (n : Byte) : OctetCount.Statement (.cmpEImm n) := rfl
theorem OctetCount.cmpFImm (n : Byte) : OctetCount.Statement (.cmpFImm n) := rfl
theorem OctetCount.cmpDaImm (nn : Word) : OctetCount.Statement (.cmpDaImm nn) := rfl
theorem OctetCount.cmpDbImm (nn : Word) : OctetCount.Statement (.cmpDbImm nn) := rfl
theorem OctetCount.addReg (dst src : RegCode) : OctetCount.Statement (.addReg dst src) := rfl
theorem OctetCount.subReg (dst src : RegCode) : OctetCount.Statement (.subReg dst src) := rfl
theorem OctetCount.cmpReg (dst src : RegCode) : OctetCount.Statement (.cmpReg dst src) := rfl
theorem OctetCount.andReg (dst src : RegCode) : OctetCount.Statement (.andReg dst src) := rfl
theorem OctetCount.orReg (dst src : RegCode) : OctetCount.Statement (.orReg dst src) := rfl
theorem OctetCount.xorReg (dst src : RegCode) : OctetCount.Statement (.xorReg dst src) := rfl
theorem OctetCount.movReg (dst src : RegCode) : OctetCount.Statement (.movReg dst src) := rfl
theorem OctetCount.swapReg (dst src : RegCode) : OctetCount.Statement (.swapReg dst src) := rfl
theorem OctetCount.addDaDb : OctetCount.Statement .addDaDb := rfl
theorem OctetCount.addDbDa : OctetCount.Statement .addDbDa := rfl
theorem OctetCount.subDaDb : OctetCount.Statement .subDaDb := rfl
theorem OctetCount.subDbDa : OctetCount.Statement .subDbDa := rfl
theorem OctetCount.cmpDaDb : OctetCount.Statement .cmpDaDb := rfl
theorem OctetCount.cmpDbDa : OctetCount.Statement .cmpDbDa := rfl
theorem OctetCount.movDaDb : OctetCount.Statement .movDaDb := rfl
theorem OctetCount.movDbDa : OctetCount.Statement .movDbDa := rfl
theorem OctetCount.swapDaDb : OctetCount.Statement .swapDaDb := rfl
theorem OctetCount.movDaIdx : OctetCount.Statement .movDaIdx := rfl
theorem OctetCount.movDaIdy : OctetCount.Statement .movDaIdy := rfl
theorem OctetCount.movDbIdx : OctetCount.Statement .movDbIdx := rfl
theorem OctetCount.movDbIdy : OctetCount.Statement .movDbIdy := rfl
theorem OctetCount.movIdxDa : OctetCount.Statement .movIdxDa := rfl
theorem OctetCount.movIdyDa : OctetCount.Statement .movIdyDa := rfl
theorem OctetCount.movIdxDb : OctetCount.Statement .movIdxDb := rfl
theorem OctetCount.movIdyDb : OctetCount.Statement .movIdyDb := rfl
theorem OctetCount.movIdxIdy : OctetCount.Statement .movIdxIdy := rfl
theorem OctetCount.movIdyIdx : OctetCount.Statement .movIdyIdx := rfl
theorem OctetCount.swapIdxIdy : OctetCount.Statement .swapIdxIdy := rfl
theorem OctetCount.jmp (a : Word) : OctetCount.Statement (.jmp a) := rfl
theorem OctetCount.jz (a : Word) : OctetCount.Statement (.jz a) := rfl
theorem OctetCount.jnz (a : Word) : OctetCount.Statement (.jnz a) := rfl
theorem OctetCount.jc (a : Word) : OctetCount.Statement (.jc a) := rfl
theorem OctetCount.jnc (a : Word) : OctetCount.Statement (.jnc a) := rfl
theorem OctetCount.jn (a : Word) : OctetCount.Statement (.jn a) := rfl
theorem OctetCount.jnn (a : Word) : OctetCount.Statement (.jnn a) := rfl
theorem OctetCount.call (a : Word) : OctetCount.Statement (.call a) := rfl
theorem OctetCount.ret : OctetCount.Statement .ret := rfl
theorem OctetCount.jr (d : Byte) : OctetCount.Statement (.jr d) := rfl
theorem OctetCount.jrz (d : Byte) : OctetCount.Statement (.jrz d) := rfl
theorem OctetCount.jrnz (d : Byte) : OctetCount.Statement (.jrnz d) := rfl
theorem OctetCount.jrc (d : Byte) : OctetCount.Statement (.jrc d) := rfl
theorem OctetCount.ldixImm (nn : Word) : OctetCount.Statement (.ldixImm nn) := rfl
theorem OctetCount.ldiyImm (nn : Word) : OctetCount.Statement (.ldiyImm nn) := rfl
theorem OctetCount.ldixAbs (a : Word) : OctetCount.Statement (.ldixAbs a) := rfl
theorem OctetCount.ldiyAbs (a : Word) : OctetCount.Statement (.ldiyAbs a) := rfl
theorem OctetCount.incIdx : OctetCount.Statement .incIdx := rfl
theorem OctetCount.incIdy : OctetCount.Statement .incIdy := rfl
theorem OctetCount.decIdx : OctetCount.Statement .decIdx := rfl
theorem OctetCount.decIdy : OctetCount.Statement .decIdy := rfl
theorem OctetCount.addIdxImm (n : Byte) : OctetCount.Statement (.addIdxImm n) := rfl
theorem OctetCount.addIdyImm (n : Byte) : OctetCount.Statement (.addIdyImm n) := rfl
theorem OctetCount.ldaIdx : OctetCount.Statement .ldaIdx := rfl
theorem OctetCount.ldaIdy : OctetCount.Statement .ldaIdy := rfl
theorem OctetCount.staIdx : OctetCount.Statement .staIdx := rfl
theorem OctetCount.staIdy : OctetCount.Statement .staIdy := rfl
theorem OctetCount.ldaIdxDisp (d : Byte) : OctetCount.Statement (.ldaIdxDisp d) := rfl
theorem OctetCount.ldaIdyDisp (d : Byte) : OctetCount.Statement (.ldaIdyDisp d) := rfl
theorem OctetCount.staIdxDisp (d : Byte) : OctetCount.Statement (.staIdxDisp d) := rfl
theorem OctetCount.staIdyDisp (d : Byte) : OctetCount.Statement (.staIdyDisp d) := rfl
theorem OctetCount.ldaIdxInc : OctetCount.Statement .ldaIdxInc := rfl
theorem OctetCount.ldaIdyInc : OctetCount.Statement .ldaIdyInc := rfl
theorem OctetCount.staIdxInc : OctetCount.Statement .staIdxInc := rfl
theorem OctetCount.staIdyInc : OctetCount.Statement .staIdyInc := rfl
theorem OctetCount.ldaIdxDec : OctetCount.Statement .ldaIdxDec := rfl
theorem OctetCount.ldaIdyDec : OctetCount.Statement .ldaIdyDec := rfl
theorem OctetCount.staIdxDec : OctetCount.Statement .staIdxDec := rfl
theorem OctetCount.staIdyDec : OctetCount.Statement .staIdyDec := rfl

end Sys2Proof.Laws
end

