-- ==== Sys2Proof/Laws/Step.lean ====
section
/-!
SUPPORT. What the fetch of an instruction and a SYS can do, said once, and how the step under a handler given as a
function is the step of the machine that holds it.
-/

namespace Sys2Proof.Machine

/-! ### The fetch -/

/-- A fetched octet is the byte at pc, and pc has moved past it (00_scope.md R13). -/
theorem fetch8_done {s t : State} {v : Byte} (h : fetch8 s = .done v t) :
    s.pc.toNat < s.config.memSize ∧ v = Memory.read s.mem s.pc.toNat ∧ t = s.set16 .pc (s.pc + 1#16) := by
  rcases Nat.lt_or_ge s.pc.toNat s.config.memSize with hp | hp
  · rw [fetch8_in hp] at h
    injection h with h1 h2
    exact ⟨hp, h1.symm, h2.symm⟩
  · rw [fetch8_out hp] at h
    cases h

/-- A fetch changes pc alone, and raises nothing but AddressOutOfRange or UnknownInstruction (40_control.md R90). -/
theorem fetch8_cases (s : State) :
    fetch8 s = .raise (.addressOutOfRange s.pc.toNat) s ∨
      fetch8 s = .done (Memory.read s.mem s.pc.toNat) (s.set16 .pc (s.pc + 1#16)) := by
  rcases Nat.lt_or_ge s.pc.toNat s.config.memSize with hp | hp
  · exact .inr (fetch8_in hp)
  · exact .inl (fetch8_out hp)

/-- What an outcome's state may be when only pc has moved. -/
def MovesPcOnly {α : Type} (s : State) (r : Effect α) : Prop :=
  ∃ pc, (∃ v, r = .done v (s.set16 .pc pc)) ∨ ∃ k, r = .raise k (s.set16 .pc pc)

theorem State.set16_pc_self (s : State) : s.set16 .pc s.pc = s := rfl

theorem State.set16_pc_set16_pc (s : State) (v w : Word) : (s.set16 .pc v).set16 .pc w = s.set16 .pc w := rfl

theorem MovesPcOnly.of_set16 {α : Type} {s : State} {v : Word} {r : Effect α} (h : MovesPcOnly (s.set16 .pc v) r) :
    MovesPcOnly s r := h

theorem MovesPcOnly.andThen {α β : Type} {s : State} {r : Effect α} {k : α → State → Effect β}
    (h : MovesPcOnly s r) (hk : ∀ v pc, MovesPcOnly (s.set16 .pc pc) (k v (s.set16 .pc pc))) :
    MovesPcOnly s (r.andThen k) := by
  obtain ⟨pc, ⟨v, rfl⟩ | ⟨f, rfl⟩⟩ := h
  · exact (hk v pc).of_set16
  · exact ⟨pc, .inr ⟨f, rfl⟩⟩

theorem MovesPcOnly.done {α : Type} (v : α) (s : State) : MovesPcOnly s (.done v s) := ⟨s.pc, .inl ⟨v, rfl⟩⟩

theorem MovesPcOnly.raise {α : Type} (k : Fault) (s : State) : MovesPcOnly s (.raise k s : Effect α) :=
  ⟨s.pc, .inr ⟨k, rfl⟩⟩

theorem MovesPcOnly.fetch8 (s : State) : MovesPcOnly s (fetch8 s) := by
  rcases fetch8_cases s with h | h <;> rw [h]
  · exact .raise _ _
  · exact ⟨_, .inl ⟨_, rfl⟩⟩

theorem MovesPcOnly.fetch16 (s : State) : MovesPcOnly s (fetch16 s) :=
  (MovesPcOnly.fetch8 s).andThen fun _ _ => (MovesPcOnly.fetch8 _).andThen fun _ _ => .done _ _

/-- Fetching an instruction moves pc and changes nothing else, also when it raises (40_control.md R90). -/
theorem MovesPcOnly.fetchInstr (s : State) : MovesPcOnly s (fetchInstr s) := by
  refine (MovesPcOnly.fetch8 s).andThen fun op pc => ?_
  split
  · exact .raise _ _
  · rename_i row _
    cases row with
    | f0 i => exact .done _ _
    | f1 mk => exact (MovesPcOnly.fetch8 _).andThen fun _ _ => .done _ _
    | f2 mk => exact (MovesPcOnly.fetch8 _).andThen fun _ _ => .done _ _
    | f3 mk => exact (MovesPcOnly.fetch16 _).andThen fun _ _ => .done _ _

/-- The state an instruction is executed in is the one it was fetched in, with pc moved. -/
theorem fetchInstr_done {s t : State} {i : Instr} (h : fetchInstr s = .done i t) : t = s.set16 .pc t.pc := by
  obtain ⟨pc, ⟨v, hv⟩ | ⟨k, hk⟩⟩ := MovesPcOnly.fetchInstr s
  · rw [h] at hv
    injection hv with _ ht
    subst ht
    rfl
  · rw [h] at hk
    cases hk

/-! ### SYS -/

/-- R94: with no SYS_HANDLER the step is refused. -/
theorem execSys_none {n : Byte} {s : State} (h : s.sysHandler = none) :
    execSys n s = .refused (.sysUnmodelled n s) := by simp [execSys, h]

theorem execSys_some {n : Byte} {s : State} {hd : SysHandler} (h : s.sysHandler = some hd) :
    execSys n s = sysWith hd.reply hd.writesPc n s := by simp [execSys, h]

theorem sysWith_completes {reply : Byte → ArchState → SysReply} {n : Byte} {s : State} {u : ArchState}
    (writesPc : Bool) (h : reply n s.arch = .completes u) :
    sysWith reply writesPc n s = .next (countInstruction (s.afterHandler writesPc u)) := by simp [sysWith, h]

theorem sysWith_raises {reply : Byte → ArchState → SysReply} {n : Byte} {s : State} {k : Fault} {u : ArchState}
    (writesPc : Bool) (h : reply n s.arch = .raises k u) :
    sysWith reply writesPc n s = .next (takeFault k (s.afterHandler writesPc u)) := by simp [sysWith, h]

theorem sysWith_refuses {reply : Byte → ArchState → SysReply} {n : Byte} {s : State}
    (writesPc : Bool) (h : reply n s.arch = .refuses) :
    sysWith reply writesPc n s = .refused (.sysUnmodelled n s) := by simp [sysWith, h]

/-! ### The step under a handler given as a function -/

/-- The step is the step under the handler the machine holds. -/
theorem step_eq_stepWith {s : State} {h : SysHandler} (hs : s.sysHandler = some h) :
    step s = stepWith h.reply h.writesPc s := by
  unfold step stepWith
  split
  · cases hf : fetchInstr s with
    | raise k t => rfl
    | done i t =>
      have ht : t.sysHandler = some h := by rw [fetchInstr_done hf]; exact hs
      cases i
      case sys n => exact execSys_some ht
      all_goals rfl
  · rfl

/-- Two handlers that reply alike in the state a SYS is fetched in give the same step. -/
theorem stepWith_congr {r r' : Byte → ArchState → SysReply} (writesPc : Bool) {s : State}
    (h : ∀ n t, fetchInstr s = .done (.sys n) t → r n t.arch = r' n t.arch) :
    stepWith r writesPc s = stepWith r' writesPc s := by
  unfold stepWith
  split
  · cases hf : fetchInstr s with
    | raise k t => rfl
    | done i t =>
      cases i
      case sys n => simp only [sysWith, h n t hf]
      all_goals rfl
  · rfl

/-- An effect with its state changed. -/
def Effect.mapState {α : Type} (f : State → State) : Effect α → Effect α
  | .done v s => .done v (f s)
  | .raise k s => .raise k (f s)

theorem Effect.mapState_andThen {α β : Type} {f : State → State} {r : Effect α} {k k' : α → State → Effect β}
    (h : ∀ v s, k' v (f s) = (k v s).mapState f) : (r.mapState f).andThen k' = (r.andThen k).mapState f := by
  cases r with
  | done v s => exact h v s
  | raise k s => rfl

/-- The machine with another SYS_HANDLER. -/
def State.withHandler (hd : Option SysHandler) (s : State) : State := { s with sysHandler := hd }

theorem fetch8_withHandler (hd : Option SysHandler) (s : State) :
    fetch8 (s.withHandler hd) = (fetch8 s).mapState (State.withHandler hd) := by
  rcases Nat.lt_or_ge s.pc.toNat s.config.memSize with hp | hp
  · rw [fetch8_in hp, fetch8_in (s := s.withHandler hd) hp]
    rfl
  · rw [fetch8_out hp, fetch8_out (s := s.withHandler hd) hp]
    rfl

/-- The fetch does not read the SYS_HANDLER. -/
theorem fetchInstr_withHandler (hd : Option SysHandler) (s : State) :
    fetchInstr (s.withHandler hd) = (fetchInstr s).mapState (State.withHandler hd) := by
  rw [fetchInstr, fetch8_withHandler]
  refine Effect.mapState_andThen fun op t => ?_
  show (match rowOf s.config.opcodeMap op with
    | none => Effect.raise (.unknownInstruction op) (t.withHandler hd)
    | some row => fetchOperands row (t.withHandler hd)) = _
  cases rowOf s.config.opcodeMap op with
  | none => rfl
  | some row =>
    cases row with
    | f0 i => rfl
    | f1 mk =>
      simp only [fetchOperands, fetch8_withHandler]
      exact Effect.mapState_andThen fun _ _ => rfl
    | f2 mk =>
      simp only [fetchOperands, fetch8_withHandler]
      exact Effect.mapState_andThen fun _ _ => rfl
    | f3 mk =>
      simp only [fetchOperands, fetch16, fetch8_withHandler]
      rw [Effect.mapState_andThen (k := fun lo s1 => (fetch8 s1).andThen fun hi s2 => .done (concat hi lo) s2)]
      · exact Effect.mapState_andThen fun _ _ => rfl
      · intro lo t
        rw [fetch8_withHandler]
        exact Effect.mapState_andThen fun _ _ => rfl

/-- No handler is lost by holding it as plain data (log entry 8): whatever function a handler is, from every state some
table of calls gives the same step. -/
theorem stepWith_eq_step (reply : Byte → ArchState → SysReply) (writesPc : Bool) (s : State) :
    ∃ hd : SysHandler, step (s.withHandler (some hd)) = stepWith reply writesPc (s.withHandler (some hd)) := by
  let calls : List ((Byte × ArchState) × SysReply) :=
    match fetchInstr s with
    | .done (.sys n) t => [((n, t.arch), reply n t.arch)]
    | _ => []
  refine ⟨{ calls := calls, writesPc := writesPc }, ?_⟩
  rw [step_eq_stepWith rfl]
  refine stepWith_congr writesPc fun n t ht => ?_
  rw [fetchInstr_withHandler] at ht
  cases hf : fetchInstr s with
  | raise k u => rw [hf] at ht; cases ht
  | done i u =>
    rw [hf] at ht
    injection ht with hi hu
    subst hi hu
    have ha (x : Option SysHandler) : (u.withHandler x).arch = u.arch := rfl
    simp [SysHandler.reply, calls, hf, ha]

end Sys2Proof.Machine
end

