-- ==== Sys2Proof/Tests/Slice0.lean ====
section
/-!
SUPPORT. The model's own tests: the WellFormed smoke, the decoding of a written-out word for every opcode, one-step tests
with the expected values of spec/95_test_vectors.md (its V numbers are in the names), and, for every obligation that has
hypotheses, a state and operands that meet them (the `witness_` theorems).
-/

namespace Sys2Proof.Machine

/-! ### Helpers -/

/-- A Running core of `size` bytes with the octets and bytes given in memory and 0x00 elsewhere, pc 0x0100 and an empty
stack. -/
def testCore (size : Nat) (mem : List Host.Cell) : State :=
  { State.reset with
    running := true
    pc := 0x0100
    sp := BitVec.ofNat 16 (size - 1)
    mem := { fill := some 0x00, cells := mem }
    config := { Config.standard with memSize := size, videoBase := size } }

/-- The state after one step, where it is a next state. -/
def testStep (s : State) : Option State :=
  match step s with
  | .next t => some t
  | _ => none

/-- Zero, Carry and Negative; Overflow is a free value. -/
def testFlags (s : State) : Bool × Bool × Bool := (s.flags.z, s.flags.c, s.flags.n)

/-- What a fault leaves: the record, the run flag and pc. -/
def testFault (s : State) : Option Fault × Bool × Word := (s.fault, s.running, s.pc)

/-! ### WellFormed smoke -/

/-- 30_encoding.md R73: a destination field of 6 is ill formed. -/
theorem test_wellFormed_refuses_dst : (Instr.addReg 6 0).wellFormed = false := by decide

/-- 30_encoding.md R73: a source field of 15 is ill formed. -/
theorem test_wellFormed_refuses_src : (Instr.swapReg 5 15).wellFormed = false := by decide

/-- Every F2 instruction checks both its fields. -/
theorem test_wellFormed_refuses_each :
    [Instr.addReg 6 0, .subReg 0 6, .cmpReg 7 0, .andReg 0 7, .orReg 8 0, .xorReg 0 9, .movReg 10 0, .swapReg 0 6].all
      (fun i => !i.wellFormed) = true := by decide

/-- The fields 0 to 5 are well formed. -/
theorem test_wellFormed_accepts : (Instr.movReg 5 0).wellFormed = true ∧ (Instr.jmp 0xFFFF).wellFormed = true := by decide

/-! ### Decoding: a written-out word for every opcode (30_encoding.md R71, R73, R74, R77) -/

/-- Opcodes 0x00 to 0x07. -/
theorem test_decode_control :
    ([
      [0x00], [0x01], [0x02, 0x9C]] : List (List Byte)).map decode = ([
      .nop, .halt, .sys 0x9C] : List Instr).map (fun i => .ok (i, [])) := by
  decide

/-- Opcodes 0x08 to 0x0F. -/
theorem test_decode_immediate_loads :
    ([
      [0x08, 0x9C], [0x09, 0x9C], [0x0A, 0x9C], [0x0B, 0x9C], [0x0C, 0x9C], [0x0D, 0x9C], [0x0E, 0x34, 0x12],
      [0x0F, 0x34, 0x12]] : List (List Byte)).map decode = ([
      .ldaImm 0x9C, .ldbImm 0x9C, .ldcImm 0x9C, .lddImm 0x9C, .ldeImm 0x9C, .ldfImm 0x9C, .lddaImm 0x1234,
      .lddbImm 0x1234] : List Instr).map (fun i => .ok (i, [])) := by
  decide

/-- Opcodes 0x10 to 0x17. -/
theorem test_decode_absolute_loads :
    ([
      [0x10, 0x34, 0x12], [0x11, 0x34, 0x12], [0x12, 0x34, 0x12], [0x13, 0x34, 0x12], [0x14, 0x34, 0x12],
      [0x15, 0x34, 0x12], [0x16, 0x34, 0x12], [0x17, 0x34, 0x12]] : List (List Byte)).map decode = ([
      .ldaAbs 0x1234, .ldbAbs 0x1234, .ldcAbs 0x1234, .lddAbs 0x1234, .ldeAbs 0x1234, .ldfAbs 0x1234,
      .lddaAbs 0x1234, .lddbAbs 0x1234] : List Instr).map (fun i => .ok (i, [])) := by
  decide

/-- Opcodes 0x18 to 0x1F. -/
theorem test_decode_absolute_stores :
    ([
      [0x18, 0x34, 0x12], [0x19, 0x34, 0x12], [0x1A, 0x34, 0x12], [0x1B, 0x34, 0x12], [0x1C, 0x34, 0x12],
      [0x1D, 0x34, 0x12], [0x1E, 0x34, 0x12], [0x1F, 0x34, 0x12]] : List (List Byte)).map decode = ([
      .staAbs 0x1234, .stbAbs 0x1234, .stcAbs 0x1234, .stdAbs 0x1234, .steAbs 0x1234, .stfAbs 0x1234,
      .stdaAbs 0x1234, .stdbAbs 0x1234] : List Instr).map (fun i => .ok (i, [])) := by
  decide

/-- Opcodes 0x20 to 0x2F. -/
theorem test_decode_inc_dec :
    ([
      [0x20], [0x21], [0x22], [0x23], [0x24], [0x25], [0x26], [0x27], [0x28], [0x29], [0x2A], [0x2B], [0x2C],
      [0x2D], [0x2E], [0x2F]] : List (List Byte)).map decode = ([
      .incA, .incB, .incC, .incD, .incE, .incF, .incDa, .incDb, .decA, .decB, .decC, .decD, .decE, .decF,
      .decDa, .decDb] : List Instr).map (fun i => .ok (i, [])) := by
  decide

/-- Opcodes 0x30 to 0x47. -/
theorem test_decode_not_shl_shr :
    ([
      [0x30], [0x31], [0x32], [0x33], [0x34], [0x35], [0x38], [0x39], [0x3A], [0x3B], [0x3C], [0x3D], [0x40],
      [0x41], [0x42], [0x43], [0x44], [0x45]] : List (List Byte)).map decode = ([
      .notA, .notB, .notC, .notD, .notE, .notF, .shlA, .shlB, .shlC, .shlD, .shlE, .shlF, .shrA, .shrB, .shrC,
      .shrD, .shrE, .shrF] : List Instr).map (fun i => .ok (i, [])) := by
  decide

/-- Opcodes 0x48 to 0x57. -/
theorem test_decode_push_pop :
    ([
      [0x48], [0x49], [0x4A], [0x4B], [0x4C], [0x4D], [0x4E], [0x4F], [0x50], [0x51], [0x52], [0x53], [0x54],
      [0x55], [0x56], [0x57]] : List (List Byte)).map decode = ([
      .pushA, .pushB, .pushC, .pushD, .pushE, .pushF, .pushDa, .pushDb, .popA, .popB, .popC, .popD, .popE,
      .popF, .popDa, .popDb] : List Instr).map (fun i => .ok (i, [])) := by
  decide

/-- Opcodes 0x58 to 0x5F. -/
theorem test_decode_compare_immediate :
    ([
      [0x58, 0x9C], [0x59, 0x9C], [0x5A, 0x9C], [0x5B, 0x9C], [0x5C, 0x9C], [0x5D, 0x9C], [0x5E, 0x34, 0x12],
      [0x5F, 0x34, 0x12]] : List (List Byte)).map decode = ([
      .cmpAImm 0x9C, .cmpBImm 0x9C, .cmpCImm 0x9C, .cmpDImm 0x9C, .cmpEImm 0x9C, .cmpFImm 0x9C,
      .cmpDaImm 0x1234, .cmpDbImm 0x1234] : List Instr).map (fun i => .ok (i, [])) := by
  decide

/-- Opcodes 0x60 to 0x67. -/
theorem test_decode_register_pairs :
    ([
      [0x60, 0x25], [0x61, 0x25], [0x62, 0x25], [0x63, 0x25], [0x64, 0x25], [0x65, 0x25], [0x66, 0x25],
      [0x67, 0x25]] : List (List Byte)).map decode = ([
      .addReg 2 5, .subReg 2 5, .cmpReg 2 5, .andReg 2 5, .orReg 2 5, .xorReg 2 5, .movReg 2 5, .swapReg 2 5] : List Instr).map (fun i => .ok (i, [])) := by
  decide

/-- Opcodes 0x68 to 0x6F. -/
theorem test_decode_wide_alu :
    ([
      [0x68], [0x69], [0x6A], [0x6B], [0x6C], [0x6D]] : List (List Byte)).map decode = ([
      .addDaDb, .addDbDa, .subDaDb, .subDbDa, .cmpDaDb, .cmpDbDa] : List Instr).map (fun i => .ok (i, [])) := by
  decide

/-- Opcodes 0x70 to 0x7F. -/
theorem test_decode_wide_moves :
    ([
      [0x70], [0x71], [0x72], [0x73], [0x74], [0x75], [0x76], [0x77], [0x78], [0x79], [0x7A], [0x7B], [0x7C],
      [0x7D]] : List (List Byte)).map decode = ([
      .movDaDb, .movDbDa, .swapDaDb, .movDaIdx, .movDaIdy, .movDbIdx, .movDbIdy, .movIdxDa, .movIdyDa,
      .movIdxDb, .movIdyDb, .movIdxIdy, .movIdyIdx, .swapIdxIdy] : List Instr).map (fun i => .ok (i, [])) := by
  decide

/-- Opcodes 0x80 to 0x8F. -/
theorem test_decode_jumps :
    ([
      [0x80, 0x34, 0x12], [0x81, 0x34, 0x12], [0x82, 0x34, 0x12], [0x83, 0x34, 0x12], [0x84, 0x34, 0x12],
      [0x85, 0x34, 0x12], [0x86, 0x34, 0x12], [0x88, 0x34, 0x12], [0x89], [0x8A, 0x9C], [0x8B, 0x9C],
      [0x8C, 0x9C], [0x8D, 0x9C]] : List (List Byte)).map decode = ([
      .jmp 0x1234, .jz 0x1234, .jnz 0x1234, .jc 0x1234, .jnc 0x1234, .jn 0x1234, .jnn 0x1234, .call 0x1234,
      .ret, .jr 0x9C, .jrz 0x9C, .jrnz 0x9C, .jrc 0x9C] : List Instr).map (fun i => .ok (i, [])) := by
  decide

/-- Opcodes 0x90 to 0x9F. -/
theorem test_decode_pointers :
    ([
      [0x90, 0x34, 0x12], [0x91, 0x34, 0x12], [0x92, 0x34, 0x12], [0x93, 0x34, 0x12], [0x94], [0x95], [0x96],
      [0x97], [0x98, 0x9C], [0x99, 0x9C]] : List (List Byte)).map decode = ([
      .ldixImm 0x1234, .ldiyImm 0x1234, .ldixAbs 0x1234, .ldiyAbs 0x1234, .incIdx, .incIdy, .decIdx, .decIdy,
      .addIdxImm 0x9C, .addIdyImm 0x9C] : List Instr).map (fun i => .ok (i, [])) := by
  decide

/-- Opcodes 0xA0 to 0xAF. -/
theorem test_decode_indexed :
    ([
      [0xA0], [0xA1], [0xA2], [0xA3], [0xA4, 0x9C], [0xA5, 0x9C], [0xA6, 0x9C], [0xA7, 0x9C], [0xA8], [0xA9],
      [0xAA], [0xAB], [0xAC], [0xAD], [0xAE], [0xAF]] : List (List Byte)).map decode = ([
      .ldaIdx, .ldaIdy, .staIdx, .staIdy, .ldaIdxDisp 0x9C, .ldaIdyDisp 0x9C, .staIdxDisp 0x9C,
      .staIdyDisp 0x9C, .ldaIdxInc, .ldaIdyInc, .staIdxInc, .staIdyInc, .ldaIdxDec, .ldaIdyDec, .staIdxDec,
      .staIdyDec] : List Instr).map (fun i => .ok (i, [])) := by
  decide

/-- 30_encoding.md R74: an operand octet that is missing is no instruction. -/
theorem test_decode_truncated : decode [0x08] = .error (.truncated 0x08) ∧ decode [0x80, 0x34] = .error (.truncated 0x80) := by
  decide

/-- The table's bit order: the first octet is bits 7..0. -/
theorem test_decodeTableWord : decodeTableWord 24 0x12345E = some (.cmpDaImm 0x1234) ∧ decodeTableWord 8 0xB0 = none := by
  decide

/-- The instruction placed is the one the next step runs. -/
theorem test_withFetchWord :
    (testStep (State.reset.withFetchWord 16 0x3208)).map (fun t => (t.a, t.pc, t.instructionsExecuted)) =
      some (0x32, 0x0002, 1) := by
  decide

/-! ### One step: the vectors of spec/95_test_vectors.md -/

/-- HALT (R93). -/
theorem test_V2 :
    (testStep (testCore 0x10000 [(0x0100, 0x01)])).map (fun t => (t.pc, t.running, t.fault)) =
      some (0x0101, false, none) := by decide

/-- A fetch that wraps at the top of memory (R91). -/
theorem test_V3 :
    (testStep { testCore 0x10000 [(0x0000, 0x12), (0xFFFE, 0x0E), (0xFFFF, 0x34)] with pc := 0xFFFE }).map (fun t => (t.da, t.pc)) =
      some (0x1234, 0x0001) := by decide

/-- An unassigned opcode (R96). -/
theorem test_V4 :
    (testStep (testCore 0x10000 [(0x0100, 0xFD)])).map (fun t => testFault t) =
      some (some (.unknownInstruction 0xFD), false, 0x0101) := by decide

/-- LDA #0 (R100). -/
theorem test_V7 :
    (testStep { testCore 0x10000 [(0x0100, 0x08)] with a := 5 }).map (fun t => (t.a, t.pc, testFlags t)) =
      some (0x00, 0x0102, true, false, false) := by decide

/-- LDB $2000 (R101). -/
theorem test_V9 :
    (testStep (testCore 0x10000 [(0x0100, 0x11), (0x0102, 0x20), (0x2000, 0x4B)])).map (fun t => (t.b, t.pc, testFlags t)) =
      some (0x4B, 0x0103, false, false, false) := by decide

/-- LDDA #0x0100: Zero is tested on all 16 bits (R102). -/
theorem test_V11 :
    (testStep { testCore 0x10000 [(0x0100, 0x0E), (0x0102, 0x01)] with flags := { z := true, c := false, o := false, n := false } }).map (fun t => (t.da, t.pc, testFlags t)) =
      some (0x0100, 0x0103, false, false, false) := by decide

/-- LDDB $3000 (R103). -/
theorem test_V12 :
    (testStep (testCore 0x10000 [(0x0100, 0x17), (0x0102, 0x30), (0x3000, 0x34), (0x3001, 0x12)])).map (fun t => (t.db, t.pc)) =
      some (0x1234, 0x0103) := by decide

/-- LDDA $FFFF: a + 1 is not wrapped (R103). -/
theorem test_V13 :
    (testStep (testCore 0x10000 [(0x0100, 0x16), (0x0101, 0xFF), (0x0102, 0xFF)])).map (fun t => testFault t) =
      some (some (.addressOutOfRange 0x10000), false, 0x0103) := by decide

/-- LDIX #0 writes no flag (R104). -/
theorem test_V14 :
    (testStep { testCore 0x10000 [(0x0100, 0x90)] with idx := 0x1234 }).map (fun t => (t.idx, testFlags t)) =
      some (0x0000, false, false, false) := by decide

/-- LDIY $0010 (R105). -/
theorem test_V15 :
    (testStep (testCore 0x10000 [(0x0011, 0x80), (0x0100, 0x93), (0x0101, 0x10)])).map (fun t => (t.idy, testFlags t)) =
      some (0x8000, false, false, false) := by decide

/-- ADD A,B with a carry out (R120). -/
theorem test_V17 :
    (testStep { testCore 0x10000 [(0x0100, 0x60), (0x0101, 0x01)] with a := 0xFF, b := 1 }).map (fun t => (t.a, t.b, t.pc, testFlags t)) =
      some (0x00, 0x01, 0x0102, true, true, false) := by decide

/-- ADD A,B into bit 7 (R120). -/
theorem test_V19 :
    (testStep { testCore 0x10000 [(0x0100, 0x60), (0x0101, 0x01)] with a := 0x7F, b := 1 }).map (fun t => (t.a, testFlags t)) =
      some (0x80, false, false, true) := by decide

/-- SUB A,B with a borrow (R121). -/
theorem test_V21 :
    (testStep { testCore 0x10000 [(0x0100, 0x61), (0x0101, 0x01)] with a := 5, b := 0xC8 }).map (fun t => (t.a, testFlags t)) =
      some (0x3D, false, true, false) := by decide

/-- SUB C,D (R121). -/
theorem test_V22 :
    (testStep { testCore 0x10000 [(0x0100, 0x61), (0x0101, 0x23)] with c := 0x10, d := 0x10 }).map (fun t => (t.c, t.d, testFlags t)) =
      some (0x00, 0x10, true, false, false) := by decide

/-- CMP A,B (R122). -/
theorem test_V23 :
    (testStep { testCore 0x10000 [(0x0100, 0x62), (0x0101, 0x01)] with a := 0x10, b := 0x20 }).map (fun t => (t.a, testFlags t)) =
      some (0x10, false, true, true) := by decide

/-- INC A (R123). -/
theorem test_V25 :
    (testStep { testCore 0x10000 [(0x0100, 0x20)] with a := 0xFF }).map (fun t => (t.a, testFlags t)) =
      some (0x00, true, true, false) := by decide

/-- DEC F (R124). -/
theorem test_V27 :
    (testStep (testCore 0x10000 [(0x0100, 0x2D)])).map (fun t => (t.f, testFlags t)) =
      some (0xFF, false, true, true) := by decide

/-- ADD DA,DB (R125). -/
theorem test_V29 :
    (testStep { testCore 0x10000 [(0x0100, 0x68)] with da := 0x1234, db := 0xEDCC }).map (fun t => (t.da, testFlags t)) =
      some (0x0000, true, true, false) := by decide

/-- SUB DB,DA (R126). -/
theorem test_V32 :
    (testStep { testCore 0x10000 [(0x0100, 0x6B)] with da := 1 }).map (fun t => (t.db, testFlags t)) =
      some (0xFFFF, false, true, true) := by decide

/-- CMP DB,DA (R127). -/
theorem test_V34 :
    (testStep { testCore 0x10000 [(0x0100, 0x6D)] with da := 1 }).map (fun t => (t.db, testFlags t)) =
      some (0x0000, false, true, true) := by decide

/-- INC DB (R128). -/
theorem test_V37 :
    (testStep { testCore 0x10000 [(0x0100, 0x27)] with db := 0x00FF }).map (fun t => (t.db, testFlags t)) =
      some (0x0100, false, false, false) := by decide

/-- DEC DA (R129). -/
theorem test_V39 :
    (testStep { testCore 0x10000 [(0x0100, 0x2E)] with da := 0x0100 }).map (fun t => (t.da, testFlags t)) =
      some (0x00FF, false, false, false) := by decide

/-- AND A,B clears Carry (R130). -/
theorem test_V40 :
    (testStep { testCore 0x10000 [(0x0100, 0x63), (0x0101, 0x01)] with a := 0xF0, b := 0x0F, flags := { z := false, c := true, o := false, n := false } }).map (fun t => (t.a, testFlags t)) =
      some (0x00, true, false, false) := by decide

/-- OR A,B (R131). -/
theorem test_V41 :
    (testStep { testCore 0x10000 [(0x0100, 0x64), (0x0101, 0x01)] with a := 0x80, b := 0x01, flags := { z := false, c := true, o := false, n := false } }).map (fun t => (t.a, testFlags t)) =
      some (0x81, false, false, true) := by decide

/-- XOR A,A (R132). -/
theorem test_V42 :
    (testStep { testCore 0x10000 [(0x0100, 0x65)] with a := 0x5A }).map (fun t => (t.a, testFlags t)) =
      some (0x00, true, false, false) := by decide

/-- NOT A keeps Carry (R133). -/
theorem test_V43 :
    (testStep { testCore 0x10000 [(0x0100, 0x30)] with a := 0xFF, flags := { z := false, c := true, o := false, n := false } }).map (fun t => (t.a, testFlags t)) =
      some (0x00, true, true, false) := by decide

/-- SHL A (R134). -/
theorem test_V45 :
    (testStep { testCore 0x10000 [(0x0100, 0x38)] with a := 0x81 }).map (fun t => (t.a, testFlags t)) =
      some (0x02, false, true, false) := by decide

/-- SHR E (R135). -/
theorem test_V48 :
    (testStep { testCore 0x10000 [(0x0100, 0x44)] with e := 0x80, flags := { z := false, c := false, o := false, n := true } }).map (fun t => (t.e, testFlags t)) =
      some (0x40, false, false, false) := by decide

/-- CMP F,#1 (R136). -/
theorem test_V50 :
    (testStep (testCore 0x10000 [(0x0100, 0x5D), (0x0101, 0x01)])).map (fun t => (t.f, testFlags t)) =
      some (0x00, false, true, true) := by decide

/-- CMP DB,#0xFFFF (R137). -/
theorem test_V52 :
    (testStep (testCore 0x10000 [(0x0100, 0x5F), (0x0101, 0xFF), (0x0102, 0xFF)])).map (fun t => (t.db, t.pc, testFlags t)) =
      some (0x0000, 0x0103, false, true, false) := by decide

/-- Both fields bad: the destination is checked first (R79). -/
theorem test_V54 :
    (testStep (testCore 0x10000 [(0x0100, 0x60), (0x0101, 0xF9)])).map (fun t => testFault t) =
      some (some (.invalidRegisterIdentifier 0xF), false, 0x0102) := by decide

/-- JC taken (R143). -/
theorem test_V59 :
    (testStep { testCore 0x10000 [(0x0010, 0x83), (0x0011, 0x34), (0x0012, 0x12)] with pc := 0x0010, flags := { z := false, c := true, o := false, n := false } }).map (fun t => (t.pc, testFlags t)) =
      some (0x1234, false, true, false) := by decide

/-- JNC not taken (R144). -/
theorem test_V60 :
    (testStep { testCore 0x10000 [(0x0010, 0x84), (0x0011, 0x34), (0x0012, 0x12)] with pc := 0x0010, flags := { z := false, c := true, o := false, n := false } }).map (fun t => (t.pc, testFlags t)) =
      some (0x0013, false, true, false) := by decide

/-- CALL $0300 (R147). -/
theorem test_V64 :
    (testStep (testCore 0x10000 [(0x0100, 0x88), (0x0102, 0x03)])).map (fun t => (t.pc, t.sp, Memory.read t.mem 0xFFFE, Memory.read t.mem 0xFFFF)) =
      some (0x0300, 0xFFFD, 0x03, 0x01) := by decide

/-- RET (R148). -/
theorem test_V66 :
    (testStep { testCore 0x10000 [(0x0300, 0x89), (0xFFFE, 0x03), (0xFFFF, 0x01)] with pc := 0x0300, sp := 0xFFFD }).map (fun t => (t.pc, t.sp)) =
      some (0x0103, 0xFFFF) := by decide

/-- RET with nothing pushed: SP wraps (R148). -/
theorem test_V67 :
    (testStep { testCore 0x10000 [(0x0000, 0x34), (0x0001, 0x12), (0x0300, 0x89)] with pc := 0x0300 }).map (fun t => (t.pc, t.sp)) =
      some (0x1234, 0x0001) := by decide

/-- JR -4 (R149). -/
theorem test_V68 :
    (testStep { testCore 0x10000 [(0x0010, 0x8A), (0x0011, 0xFC)] with pc := 0x0010 }).map (fun t => t.pc) =
      some 0x000E := by decide

/-- JRNZ not taken (R151). -/
theorem test_V73 :
    (testStep { testCore 0x10000 [(0x0109, 0x8C), (0x010A, 0xF9)] with pc := 0x0109, flags := { z := true, c := false, o := false, n := false } }).map (fun t => t.pc) =
      some 0x010B := by decide

/-- JRC -128 (R152). -/
theorem test_V74 :
    (testStep { testCore 0x10000 [(0x0200, 0x8D), (0x0201, 0x80)] with pc := 0x0200, flags := { z := false, c := true, o := false, n := false } }).map (fun t => t.pc) =
      some 0x0182 := by decide

/-- STF $0000 (R160). -/
theorem test_V77 :
    (testStep { testCore 0x10000 [(0x0100, 0x1D)] with f := 0x9C }).map (fun t => (Memory.read t.mem 0, t.pc, testFlags t)) =
      some (0x9C, 0x0103, false, false, false) := by decide

/-- STDB $3000 (R161). -/
theorem test_V78 :
    (testStep { testCore 0x10000 [(0x0100, 0x1F), (0x0102, 0x30)] with db := 0xBEEF }).map (fun t => (Memory.read t.mem 0x3000, Memory.read t.mem 0x3001)) =
      some (0xEF, 0xBE) := by decide

/-- STDA $FFFF (R161, 20_memory.md R55). -/
theorem test_V79 :
    (testStep { testCore 0x10000 [(0x0100, 0x1E), (0x0101, 0xFF), (0x0102, 0xFF)] with da := 0xBEEF }).map (fun t => testFault t) =
      some (some (.addressOutOfRange 0x10000), false, 0x0103) := by decide

/-- PUSH C with SP at 0 (R168). -/
theorem test_V81 :
    (testStep { testCore 0x10000 [(0x0100, 0x4A)] with c := 7, sp := 0 }).map (fun t => (t.sp, Memory.read t.mem 0)) =
      some (0xFFFF, 0x07) := by decide

/-- PUSH DB across the wrap (R170). -/
theorem test_V84 :
    (testStep { testCore 0x10000 [(0x0100, 0x4F)] with db := 0xABCD, sp := 0 }).map (fun t => (t.sp, Memory.read t.mem 0, Memory.read t.mem 0xFFFF)) =
      some (0xFFFE, 0xAB, 0xCD) := by decide

/-- POP B (R169). -/
theorem test_V82 :
    (testStep { testCore 0x10000 [(0x0100, 0x51)] with b := 7, sp := 0xFFFE }).map (fun t => (t.b, t.sp, testFlags t)) =
      some (0x00, 0xFFFF, true, false, false) := by decide

/-- POP DA (R171). -/
theorem test_V86 :
    (testStep { testCore 0x10000 [(0x0100, 0x56), (0xFFFF, 0x01)] with sp := 0xFFFD, flags := { z := true, c := false, o := false, n := false } }).map (fun t => (t.da, t.sp, testFlags t)) =
      some (0x0100, 0xFFFF, false, false, false) := by decide

/-- LDA (IDY) (R176). -/
theorem test_V88 :
    (testStep { testCore 0x10000 [(0x0100, 0xA1), (0x4000, 0x81)] with idy := 0x4000 }).map (fun t => (t.a, testFlags t)) =
      some (0x81, false, false, false) := by decide

/-- LDA (IDX-1) wraps (R178). -/
theorem test_V92 :
    (testStep (testCore 0x10000 [(0x0100, 0xA4), (0x0101, 0xFF), (0xFFFF, 0x80)])).map (fun t => (t.a, t.idx, t.pc)) =
      some (0x80, 0x0000, 0x0102) := by decide

/-- STA (IDX-128) (R179). -/
theorem test_V94 :
    (testStep { testCore 0x10000 [(0x0100, 0xA6), (0x0101, 0x80)] with a := 0x22, idx := 0x0100 }).map (fun t => (Memory.read t.mem 0x0080, t.idx)) =
      some (0x22, 0x0100) := by decide

/-- STA (IDY) (R177). -/
theorem test_V89 :
    (testStep { testCore 0x10000 [(0x0100, 0xA3)] with a := 0x7E, idy := 0x5000 }).map (fun t => (Memory.read t.mem 0x5000, t.idy)) =
      some (0x7E, 0x5000) := by decide

/-- LDA (IDX)+ (R180). -/
theorem test_V95 :
    (testStep { testCore 0x10000 [(0x0100, 0xA8), (0x4000, 0x2A)] with idx := 0x4000 }).map (fun t => (t.a, t.idx)) =
      some (0x2A, 0x4001) := by decide

/-- STA (IDY)+ (R181). -/
theorem test_V98 :
    (testStep { testCore 0x10000 [(0x0100, 0xAB)] with a := 0x2A, idy := 0x5000 }).map (fun t => (Memory.read t.mem 0x5000, t.idy)) =
      some (0x2A, 0x5001) := by decide

/-- LDA (IDX)- (R182). -/
theorem test_V99 :
    (testStep { testCore 0x10000 [(0x0100, 0xAC), (0x4001, 0x05)] with idx := 0x4001 }).map (fun t => (t.a, t.idx)) =
      some (0x05, 0x4000) := by decide

/-- STA (IDY)- wraps after the access (R183). -/
theorem test_V100 :
    (testStep { testCore 0x10000 [(0x0100, 0xAF)] with a := 1 }).map (fun t => (Memory.read t.mem 0, t.idy)) =
      some (0x01, 0xFFFF) := by decide

/-- INC IDX writes no flag (R184). -/
theorem test_V101 :
    (testStep { testCore 0x10000 [(0x0100, 0x94)] with idx := 0xFFFF }).map (fun t => (t.idx, testFlags t)) =
      some (0x0000, false, false, false) := by decide

/-- DEC IDY (R185). -/
theorem test_V102 :
    (testStep (testCore 0x10000 [(0x0100, 0x97)])).map (fun t => (t.idy, testFlags t)) =
      some (0xFFFF, false, false, false) := by decide

/-- ADD IDX,#255: the immediate is zero-extended (R186). -/
theorem test_V103 :
    (testStep { testCore 0x10000 [(0x0100, 0x98), (0x0101, 0xFF)] with idx := 0x4000 }).map (fun t => (t.idx, t.pc)) =
      some (0x40FF, 0x0102) := by decide

/-- MOV C,A (R190). -/
theorem test_V105 :
    (testStep { testCore 0x10000 [(0x0100, 0x66), (0x0101, 0x20)] with a := 0x80 }).map (fun t => (t.c, t.a, testFlags t)) =
      some (0x80, 0x80, false, false, false) := by decide

/-- MOV with a bad source field (R190). -/
theorem test_V107 :
    (testStep (testCore 0x10000 [(0x0100, 0x66), (0x0101, 0x06)])).map (fun t => testFault t) =
      some (some (.invalidRegisterIdentifier 0x6), false, 0x0102) := by decide

/-- SWAP A,B (R191). -/
theorem test_V109 :
    (testStep { testCore 0x10000 [(0x0100, 0x67), (0x0101, 0x01)] with a := 0x11, b := 0x22 }).map (fun t => (t.a, t.b, testFlags t)) =
      some (0x22, 0x11, false, false, false) := by decide

/-- MOV DB,DA (R192). -/
theorem test_V112 :
    (testStep { testCore 0x10000 [(0x0100, 0x71)] with da := 0x0100 }).map (fun t => (t.db, testFlags t)) =
      some (0x0100, false, false, false) := by decide

/-- SWAP DA,DB (R193). -/
theorem test_V113 :
    (testStep { testCore 0x10000 [(0x0100, 0x72)] with da := 0x1234, db := 0xABCD }).map (fun t => (t.da, t.db)) =
      some (0xABCD, 0x1234) := by decide

/-- MOV DB,IDY (R194). -/
theorem test_V115 :
    (testStep { testCore 0x10000 [(0x0100, 0x76)] with db := 1 }).map (fun t => (t.db, testFlags t)) =
      some (0x0000, true, false, false) := by decide

/-- MOV IDX,DB writes no flag (R195). -/
theorem test_V117 :
    (testStep { testCore 0x10000 [(0x0100, 0x79)] with idx := 0x1000 }).map (fun t => (t.idx, testFlags t)) =
      some (0x0000, false, false, false) := by decide

/-- MOV IDY,IDX (R196). -/
theorem test_V119 :
    (testStep { testCore 0x10000 [(0x0100, 0x7C)] with idx := 0x4000 }).map (fun t => t.idy) =
      some 0x4000 := by decide

/-- SWAP IDX,IDY (R197). -/
theorem test_V120 :
    (testStep { testCore 0x10000 [(0x0100, 0x7D)] with idx := 0x4000, idy := 0x5000 }).map (fun t => (t.idx, t.idy)) =
      some (0x5000, 0x4000) := by decide

/-- An opcode fetch outside memory (R90). -/
theorem test_V121 :
    (testStep { testCore 0x8000 [] with pc := 0x8000 }).map (fun t => testFault t) =
      some (some (.addressOutOfRange 0x8000), false, 0x8000) := by decide

/-- An operand fetch outside memory (R90). -/
theorem test_V122 :
    (testStep { testCore 0x8000 [(0x7FFF, 0x08)] with pc := 0x7FFF }).map (fun t => testFault t) =
      some (some (.addressOutOfRange 0x8000), false, 0x8000) := by decide

/-- LDA (IDX)+ outside memory leaves the pointer (R180). -/
theorem test_V124 :
    (testStep { testCore 0x8000 [(0x0100, 0xA8)] with idx := 0x8000 }).map (fun t => (t.idx, testFault t)) =
      some (0x8000, some (.addressOutOfRange 0x8000), false, 0x0101) := by decide

/-- PUSH DA, the second byte outside memory (R170). -/
theorem test_V125 :
    (testStep { testCore 0x8000 [(0x0100, 0x4E)] with da := 0x1234, sp := 0 }).map (fun t => (Memory.read t.mem 0, t.sp, testFault t)) =
      some (0x12, 0xFFFF, some (.addressOutOfRange 0xFFFF), false, 0x0101) := by decide

/-- POP B with nothing pushed (R169). -/
theorem test_V128 :
    (testStep { testCore 0x8000 [(0x0100, 0x51)] with b := 0x55 }).map (fun t => (t.b, t.sp, testFault t)) =
      some (0x55, 0x8000, some (.addressOutOfRange 0x8000), false, 0x0101) := by decide

/-- V129: a step of a Halted core changes nothing (R95). -/
theorem test_V129 : testStep { testCore 0x10000 [(0x0100, 0x20)] with running := false } =
    some { testCore 0x10000 [(0x0100, 0x20)] with running := false } := by decide

/-- V130: Start has no effect on a Faulted core (R222). -/
theorem test_V130 :
    start .stepped { testCore 0x10000 [] with running := false, fault := some (.unknownInstruction 0xFD) } =
      { testCore 0x10000 [] with running := false, fault := some (.unknownInstruction 0xFD) } := by decide

/-- V131: Reset keeps memory (R230). -/
theorem test_V131 :
    hostReset { testCore 0x10000 [(0x0100, 0xFD)] with a := 0x12, fault := some (.unknownInstruction 0xFD) } =
      { State.reset with mem := { fill := some 0x00, cells := [(0x0100, 0xFD)] }, config := (testCore 0x10000 []).config } := by decide

/-- V132: SYS with no handler (R94). -/
theorem test_V132 : (match step (testCore 0x10000 [(0x0100, 0x02), (0x0101, 0x05)]) with
    | .refused (.sysUnmodelled n t) => some (n, t.pc)
    | _ => none) = some (0x05, 0x0102) := by decide

/-- A SYS_HANDLER that serves service 7 in the state in which `sysCore` calls it. -/
def sysHandlerOf (core : State) (reply : SysReply) : SysHandler :=
  { calls := [((0x07, (core.set16 .pc 0x0102).arch), reply)], writesPc := false }

/-- A core about to run `SYS 7` with a handler that replies so. -/
def sysCore (reply : ArchState → SysReply) : State :=
  let core := testCore 0x8000 [(0x0100, 0x02), (0x0101, 0x07)]
  { core with sysHandler := some (sysHandlerOf core (reply core.arch)) }

/-- R94: the handler writes A, and pc stays at the address after the SYS. -/
theorem test_sys_completes :
    (testStep (sysCore fun u => .completes { u with a := 0x2A, pc := 0x4000 })).map
      (fun t => (t.a, t.pc, t.running, t.instructionsExecuted)) = some (0x2A, 0x0102, true, 1) := by decide

/-- R94: the handler raises a fault. -/
theorem test_sys_raises :
    (testStep (sysCore fun u => .raises (.addressOutOfRange 0x9000) u)).map testFault =
      some (some (.addressOutOfRange 0x9000), false, 0x0102) := by decide

/-- R7: under an OPCODE_MAP that numbers INC A 0xFD and HALT 0x20, the octet 0xFD is INC A and 0x00 is unassigned. -/
theorem test_opcode_map :
    let core := testCore 0x8000 [(0x0100, 0xFD)]
    let s := { core with config := { core.config with opcodeMap := some [(0xFD, 0x20), (0x20, 0x01)] } }
    ((testStep s).map fun t => (t.a, t.pc)) = some (0x01, 0x0101) ∧
      ((testStep { s with pc := 0x0200 }).map testFault) = some (some (.unknownInstruction 0x00), false, 0x0201) ∧
      encodeBy s.config.opcodeMap .halt = some [0x20] := by decide

/-- V133: set_register sets Zero alone (R227). -/
theorem test_V133 : (setRegister "A" 0x100 { testCore 0x10000 [] with a := 5 }).toOption.map (fun t => (t.a, testFlags t)) =
    some (0x00, true, false, false) := by decide

/-- V134: set_register16 of IDX writes no flag (R227). -/
theorem test_V134 : (setRegister16 "IDX" 0 { testCore 0x10000 [] with idx := 5 }).toOption.map
    (fun t => (t.idx, testFlags t)) = some (0x0000, false, false, false) := by decide

/-! ### Reset, memory and the host -/

/-- State.reset is the machine constructed over a launch memory of which nothing is known (60_exceptions.md R221). -/
theorem test_reset_is_constructed : construct Config.standard Memory.launch = State.reset := by decide

/-- 10_state.md R39: a byte the host never wrote is the launch memory's, and 0x00 only after Clear. -/
theorem test_launch_memory : Memory.read State.reset.mem 5 = Config.launchByte 5 ∧
    Memory.read (clearMemory State.reset).mem 5 = 0x00 := ⟨rfl, rfl⟩

/-- 10_state.md R38: SP after Reset is MEM_SIZE - 1. -/
theorem test_reset_sp : State.reset.sp = 0xFFFF ∧ (construct (testCore 0x8000 []).config Memory.launch).sp = 0x7FFF := by decide

/-- Writing the byte that every unlisted address is known to hold removes the entry. -/
theorem test_memory_canonical :
    Memory.write { fill := some 0x00, cells := [(1, 0x11), (2, 0x22)] } 1 0x00 =
      { fill := some 0x00, cells := [(2, 0x22)] } ∧
    Memory.write { fill := none, cells := [(2, 0x22)] } 1 0x00 = { fill := none, cells := [(1, 0x00), (2, 0x22)] } := by
  decide

/-- The form refuses an entry that reads as an unlisted one, and addresses that do not rise. -/
theorem test_memory_wf_refuses : Memory.wf { fill := some 0x00, cells := [(1, 0x00)] } = false ∧
    Memory.wf { fill := none, cells := [(2, 0x11), (1, 0x11)] } = false := by decide

/-- Of two launch cells for one address the first holds, and one outside memory is left out. -/
theorem test_memory_normal :
    Memory.normal 4 { fill := some 0x00, cells := [(3, 0x11), (1, 0x22), (3, 0x33), (4, 0x44)] } =
      { fill := some 0x00, cells := [(1, 0x22), (3, 0x11)] } := by decide

/-- 60_exceptions.md R228: a word at the last byte fails on a + 1. -/
theorem test_hostReadWord_edge :
    (match hostReadWord 0x7FFF (testCore 0x8000 []) with | .error e => some e | .ok _ => none) =
      some (.addressOutOfRange 0x8000) := by decide

/-- 10_state.md R33: the packing of the status value. -/
theorem test_statusByte : statusByte { z := true, c := false, o := false, n := true } = 0x09 := by decide

/-! ### Witnesses: states and operands that meet the hypotheses of the obligations -/

/-- EncodeReadsBackDecode: octets that decode. -/
theorem witness_EncodeReadsBackDecode : decode [0x88, 0x00, 0x03, 0x89] = .ok (.call 0x0300, [0x89]) := by decide

/-- UnassignedOpcodesRaise: a Running core at the last byte of memory, with an unassigned opcode there. -/
theorem witness_UnassignedOpcodesRaise :
    let s := { testCore 0x8000 [(0x7FFF, 0x03)] with pc := 0x7FFF }
    s.running = true ∧ s.pc.toNat < s.config.memSize ∧
      decodeBy s.config.opcodeMap [s.octetAt 0] = .error (.unknownOpcode (s.octetAt 0)) ∧ s.fault = none ∧
      ¬ s.runsHandler ∧ (testStep s).map (fun t => t.fault) = some (some (.unknownInstruction 0x03)) :=
  ⟨by decide, by decide, by decide, by decide, fun h => h.1 rfl, by decide⟩

/-- DecodeReadsBackEncode, second clause: another numbering that is one, and an instruction it numbers. -/
theorem witness_DecodeReadsBackEncode :
    (some [(0xFD#8, 0x88#8), (0x88#8, 0x00#8)] : Option OpcodeNumbering).all OpcodeNumbering.wf = true ∧
      encodeBy (some [(0xFD, 0x88), (0x88, 0x00)]) (.call 0x0300) = some [0xFD, 0x00, 0x03] := by decide

/-- StepRunsDecodedInstruction: a three-octet instruction that ends at the last byte of memory. -/
theorem witness_StepRunsDecodedInstruction :
    let s := { testCore 0x8000 [(0x7FFD, 0x5E), (0x7FFE, 0x34), (0x7FFF, 0x12)] with pc := 0x7FFD }
    s.running = true ∧ decodeBy s.config.opcodeMap [s.octetAt 0, s.octetAt 1, s.octetAt 2] = .ok (.cmpDaImm 0x1234, []) ∧
      ∀ k < (Instr.cmpDaImm 0x1234).format.octets, (s.pc + BitVec.ofNat 16 k).toNat < s.config.memSize := by decide

/-- StepRunsDecodedInstruction: an instruction whose octets wrap at the top of memory. -/
theorem witness_StepRunsDecodedInstruction_wrap :
    let s := { testCore 0x10000 [(0, 0x12), (0xFFFE, 0x0E), (0xFFFF, 0x34)] with pc := 0xFFFE }
    s.running = true ∧ decodeBy s.config.opcodeMap [s.octetAt 0, s.octetAt 1, s.octetAt 2] = .ok (.lddaImm 0x1234, []) ∧
      ∀ k < (Instr.lddaImm 0x1234).format.octets, (s.pc + BitVec.ofNat 16 k).toNat < s.config.memSize := by decide

/-- HaltedStepDoesNothing: the state after reset. -/
theorem witness_HaltedStepDoesNothing : State.reset.running = false := by decide

/-- FetchFaultsStopAtTheFailingOctet, first clause: pc just past the last byte. -/
theorem witness_FetchFault_opcode :
    let s := { testCore 0x8000 [] with pc := 0x8000 }
    s.running = true ∧ s.config.memSize ≤ s.pc.toNat := by decide

/-- FetchFaultsStopAtTheFailingOctet, second clause: a two-octet instruction at the last byte. -/
theorem witness_FetchFault_second :
    let s := { testCore 0x8000 [(0x7FFF, 0x08)] with pc := 0x7FFF }
    s.running = true ∧ (∃ row, rowOf s.config.opcodeMap (s.octetAt 0) = some row ∧ 2 ≤ row.format.octets) ∧
      s.pc.toNat < s.config.memSize ∧ s.config.memSize ≤ (s.pc + 1#16).toNat :=
  ⟨rfl, ⟨.f1 .ldaImm, rfl, by decide⟩, by decide, by decide⟩

/-- FetchFaultsStopAtTheFailingOctet, third clause: a three-octet instruction two bytes before the end. -/
theorem witness_FetchFault_third :
    let s := { testCore 0x8000 [(0x7FFE, 0x80)] with pc := 0x7FFE }
    s.running = true ∧ (∃ row, rowOf s.config.opcodeMap (s.octetAt 0) = some row ∧ 3 ≤ row.format.octets) ∧
      s.pc.toNat < s.config.memSize ∧ (s.pc + 1#16).toNat < s.config.memSize ∧
      s.config.memSize ≤ (s.pc + 2#16).toNat :=
  ⟨rfl, ⟨.f3 .jmp, rfl, by decide⟩, by decide, by decide, by decide⟩

/-- Any core of the tests with no fault recorded, a canonical memory inside its range and counters at 0 has the
invariant. -/
theorem testCore_inv {size : Nat} {mem : List Host.Cell} (h : (testCore size mem).config.wf = true)
    (hm : Memory.canonical (some 0x00) mem = true) (hr : mem.all (fun c => decide (c.1 < size)) = true) : (testCore size mem).Inv where
  config_wf := h
  mem_wf := hm
  mem_inRange := hr
  fault_stops := fun hf => absurd rfl hf
  fault_legal := fun _ _ hk => nomatch hk
  counters_agree := rfl

/-- StepKeepsInvariant: a state that has the invariant, and whose step is a next state that is another one. -/
theorem witness_StepKeepsInvariant :
    (testCore 0x8000 [(0x0100, 0x20)]).Inv ∧
      (testStep (testCore 0x8000 [(0x0100, 0x20)])).map (fun t => t.a) = some 0x01 :=
  ⟨testCore_inv (by decide) (by decide) (by decide), by decide⟩

/-- HostOperationKeepsInvariant: a state that has the invariant, and a host operation that is done on it. -/
theorem witness_HostOperationKeepsInvariant :
    (testCore 0x8000 []).Inv ∧ (match hostApply (.writeByte 0x7FFF 0x11) (testCore 0x8000 []) with
      | .done t => some (Memory.read t.mem 0x7FFF)
      | _ => none) = some 0x11 :=
  ⟨testCore_inv (by decide) (by decide) (by decide), by decide⟩

/-- EveryHostRunKeepsInvariant, ResetLeaves: parameters in their ranges, at both ends. -/
theorem witness_EveryHostRunKeepsInvariant :
    Config.standard.wf = true ∧ (testCore 1 []).config.wf = true ∧
      (boundaries [.loadProgram [0x20] 0, .start .stepped, .step] (construct Config.standard Memory.launch)).length = 4 := by decide

/-- OnlySysStopsTheModel: a step that is refused. -/
theorem witness_OnlySysStopsTheModel :
    ∃ r, step (testCore 0x8000 [(0x0100, 0x02), (0x0101, 0x07)]) = .refused r := ⟨_, rfl⟩

/-- OnlyResetLeavesFaulted: a Faulted core, and an operation that is done on it. -/
theorem witness_OnlyResetLeavesFaulted :
    let s := { testCore 0x8000 [] with running := false, fault := some (.unknownInstruction 0xFD) }
    s.faulted ∧ ∃ t, hostApply (.start .fast) s = .done t :=
  ⟨⟨rfl, fun h => nomatch h⟩, _, rfl⟩

/-- RunStateTransitions: HALT, a fault and an ordinary instruction. -/
theorem witness_RunStateTransitions :
    let s := testCore 0x8000 []
    s.running = true ∧ s.fault = none ∧ (∃ t, exec .halt s = .next t ∧ t.running = false ∧ t.fault = none) ∧
      (∃ t, exec (.ldaAbs 0x8000) s = .next t ∧ t.fault = some (.addressOutOfRange 0x8000)) ∧
      ∃ t, exec .nop s = .next t ∧ t.running = true :=
  ⟨rfl, rfl, ⟨_, rfl, rfl, rfl⟩, ⟨_, rfl, by decide⟩, ⟨_, rfl, rfl⟩⟩

/-- OnlyControlTransfersWritePc: an instruction that writes pc. -/
theorem witness_OnlyControlTransfersWritePc :
    ∃ t, exec (.jmp 0x0200) (testCore 0x8000 []) = .next t ∧ t.pc ≠ (testCore 0x8000 []).pc := ⟨_, rfl, by decide⟩

/-- OnlyStackInstructionsMoveSp: an instruction that moves SP. -/
theorem witness_OnlyStackInstructionsMoveSp :
    ∃ t, exec .pushA (testCore 0x8000 []) = .next t ∧ t.sp ≠ (testCore 0x8000 []).sp := ⟨_, rfl, by decide⟩

/-- OverflowIsNeverRead, TimeIsInvisible: a step that is a next state and runs no handler. -/
theorem witness_step_next :
    let s := testCore 0x8000 [(0x0100, 0x60), (0x0101, 0x01)]
    ¬ s.runsHandler ∧ ∃ t, step s = .next t := ⟨fun h => h.1 rfl, _, rfl⟩

/-- SysIsRefusedWithoutHandler: a machine with no handler, and handlers that complete, raise and refuse. -/
theorem witness_SysIsRefusedWithoutHandler :
    let core := testCore 0x8000 []
    let raising : SysReply := .raises (.unknownInstruction 0x02) core.arch
    let h : SysHandler :=
      { calls := [((1, core.arch), .completes core.arch), ((2, core.arch), raising)], writesPc := true }
    core.sysHandler = none ∧ h.reply 1 core.arch = .completes core.arch ∧
      h.reply 2 core.arch = .raises (.unknownInstruction 0x02) core.arch ∧ h.reply 3 core.arch = .refuses := by decide

/-- OnlyControlTransfersWritePc, OnlyStackInstructionsMoveSp: a SYS whose handler moves pc and SP. -/
theorem witness_handler_writes_pc_sp :
    let core := testCore 0x8000 []
    let u : ArchState := { core.arch with pc := 0x0200, sp := 0x1000 }
    let h : SysHandler := { calls := [((1, core.arch), .completes u)], writesPc := true }
    (match exec (.sys 1) { core with sysHandler := some h } with
      | .next t => some (t.pc, t.sp)
      | _ => none) = some (0x0200, 0x1000) := by decide

/-- WordRoundTrip: the last word of memory. -/
theorem witness_WordRoundTrip : 0x7FFE + 1 < (testCore 0x8000 []).config.memSize := by decide

/-- StackRestoresEveryValue: values of both widths across the wrap of SP. -/
theorem witness_StackRestoresEveryValue :
    let s := { testCore 0x10000 [] with sp := 0x0001 }
    let items := [StackItem.octet 0x11, .word 0x2233, .octet 0x44]
    4 = (items.map StackItem.size).sum ∧ 4 ≤ 65536 ∧
      ∀ k < 4, (s.sp - BitVec.ofNat 16 k).toNat < s.config.memSize := by decide

/-- CallThenRetReturns, and the inside clauses of the pushes: the stack of a fresh core, and one about to wrap. -/
theorem witness_push_inside :
    ((testCore 0x8000 []).sp.toNat < 0x8000 ∧ ((testCore 0x8000 []).sp - 1#16).toNat < 0x8000) ∧
      (0x0000#16).toNat < (testCore 0x10000 []).config.memSize ∧
      (0x0000#16 - 1#16).toNat < (testCore 0x10000 []).config.memSize := by decide

/-- The fault clauses of the pushes: SP just outside memory, and SP at 0 below an address outside it. -/
theorem witness_push_outside :
    (testCore 0x8000 []).config.memSize ≤ (0x8000#16).toNat ∧
      (0x0000#16).toNat < (testCore 0x8000 []).config.memSize ∧
      (testCore 0x8000 []).config.memSize ≤ (0x0000#16 - 1#16).toNat := by decide

/-- The inside clauses of the pops: the last two bytes of memory, and SP wrapping to 0. -/
theorem witness_pop_inside :
    ((0x7FFD#16 + 1#16).toNat < (testCore 0x8000 []).config.memSize ∧
      (0x7FFD#16 + 2#16).toNat < (testCore 0x8000 []).config.memSize) ∧
      (0xFFFF#16 + 1#16).toNat < (testCore 0x10000 []).config.memSize ∧
      (0xFFFF#16 + 2#16).toNat < (testCore 0x10000 []).config.memSize := by decide

/-- The fault clauses of the pops: the first byte outside memory, and the second alone. -/
theorem witness_pop_outside :
    (testCore 0x8000 []).config.memSize ≤ (0x7FFF#16 + 1#16).toNat ∧
      (0x7FFE#16 + 1#16).toNat < (testCore 0x8000 []).config.memSize ∧
      (testCore 0x8000 []).config.memSize ≤ (0x7FFE#16 + 2#16).toNat := by decide

/-- StoreIsSeenByTheNextFetch: a push at the last byte of memory is among the byte stores. -/
theorem witness_byteStores :
    (.pushF, .f, (testCore 0x8000 []).sp) ∈ byteStores 0x7FFF 0xFF (testCore 0x8000 []) ∧
      (testCore 0x8000 []).sp.toNat < (testCore 0x8000 []).config.memSize := by decide

/-- LoadAbsolute8, Store8, StoreIsSeenByTheNextFetch: the last address of memory and the first one outside it, with the
octets of the address. -/
theorem witness_byte_address :
    ((0x7FFF#16).toNat = (0x7F#8).toNat * 256 + (0xFF#8).toNat ∧
      (0x7FFF#16).toNat < (testCore 0x8000 []).config.memSize) ∧
      (0x8000#16).toNat = (0x80#8).toNat * 256 + (0x00#8).toNat ∧
      (testCore 0x8000 []).config.memSize ≤ (0x8000#16).toNat := by decide

/-- LoadAbsolute16, Store16: the last word of memory, the first address outside it, and the word that straddles its end;
at the top of the address space a + 1 is 0x10000. -/
theorem witness_word_address :
    ((0x7FFE#16).toNat = (0x7F#8).toNat * 256 + (0xFE#8).toNat ∧
      (0x7FFE#16).toNat + 1 < (testCore 0x8000 []).config.memSize) ∧
      (testCore 0x8000 []).config.memSize ≤ (0x8000#16).toNat ∧
      ((0x7FFF#16).toNat < (testCore 0x8000 []).config.memSize ∧
        (testCore 0x8000 []).config.memSize ≤ (0x7FFF#16).toNat + 1) ∧
      (0xFFFF#16).toNat < (testCore 0x10000 []).config.memSize ∧
      (testCore 0x10000 []).config.memSize ≤ (0xFFFF#16).toNat + 1 := by decide

/-- LoadImmediate16, Compare16, AbsoluteJumps, CallPushesTheReturnAddress: an operand word and its octets. -/
theorem witness_operand_word : (0x1234#16).toNat = (0x12#8).toNat * 256 + (0x34#8).toNat := by decide

/-- RelativeJumps: a target behind, one ahead, and one across the wrap. -/
theorem witness_RelativeJumps :
    ((0x000E#16).toNat : Int) = ((0x0012#16).toNat + (0xFC#8).toInt) % 65536 ∧
      ((0x0281#16).toNat : Int) = ((0x0202#16).toNat + (0x7F#8).toInt) % 65536 ∧
      ((0xFF80#16).toNat : Int) = ((0x0000#16).toNat + (0x80#8).toInt) % 65536 := by decide

/-- LoadIndexed, StoreIndexed: effective addresses at the end of memory, by a pointer and by a displacement. -/
theorem witness_indexed :
    let s := { testCore 0x8000 [] with idx := 0x7FFF, idy := 0x8000 }
    (pointerAddr .idx s < s.config.memSize ∧ s.config.memSize ≤ pointerAddr .idy s) ∧
      displacedAddr .idy 0xFF s < s.config.memSize ∧ s.config.memSize ≤ displacedAddr .idx 0x01 s := by decide

/-- ChecksPair: the least and the greatest bad field, in each place. -/
theorem witness_ChecksPair :
    (6 ≤ (6 : RegCode).toNat ∧ 6 ≤ (15 : RegCode).toNat) ∧ (0 : RegCode).toNat ≤ 5 ∧ (5 : RegCode).toNat ≤ 5 := by decide

/-- LoadProgramAndClear: a program that ends at the last byte, and one that is a byte too long. -/
theorem witness_LoadProgramAndClear :
    0x7FFE + [0x01#8, 0x02#8].length ≤ (testCore 0x8000 []).config.memSize ∧
      (testCore 0x8000 []).config.memSize < 0x7FFF + [0x01#8, 0x02#8].length := by decide

/-- StartAndStop: a core with no fault, and one with a fault recorded. -/
theorem witness_StartAndStop :
    (testCore 0x8000 []).fault = none ∧
      { testCore 0x8000 [] with fault := some (.addressOutOfRange 0x8000) }.fault ≠ none := by decide

/-- HostRegisterAccessors: identifiers of every clause. -/
theorem witness_HostRegisterAccessors :
    ("F", Reg8.f) ∈ [("A", Reg8.a), ("B", .b), ("C", .c), ("D", .d), ("E", .e), ("F", .f)] ∧
      ("DB", Reg16.db) ∈ [("DA", Reg16.da), ("DB", .db)] ∧
      ("IDY", Reg16.idy) ∈ [("PC", Reg16.pc), ("SP", .sp), ("IDX", .idx), ("IDY", .idy)] ∧
      "DA" ∉ ["A", "B", "C", "D", "E", "F"] ∧ "A" ∉ ["DA", "DB", "PC", "SP", "IDX", "IDY"] := by decide

/-- HostMemoryAccess: the first and last byte, the addresses beside them, the last word, and the straddling word. -/
theorem witness_HostMemoryAccess :
    let n := ((testCore 0x8000 []).config.memSize : Int)
    ((0 : Int) ≤ 0x7FFF ∧ (0x7FFF : Int) < n) ∧ (-1 : Int) < 0 ∧ n ≤ (0x8000 : Int) ∧
      ((0 : Int) ≤ 0x7FFE ∧ (0x7FFE : Int) + 1 < n) ∧ (0x7FFF : Int) + 1 = n := by decide

end Sys2Proof.Machine
end

section
/-!
Every step keeps the invariant of the machine (O8).

An instruction is a chain of `Effect`s. `Effect.KeepsInv` says of one that the state it leaves has the invariant, the
faulted state included where it raises. It holds of the memory primitives and of the stack, is carried along `andThen`,
and gives the invariant of the outcome at `finish`; so each instruction needs only the parts it is made of.
-/

namespace Sys2Proof.Machine

/-! ### What the invariant does not speak of -/

/-- The invariant speaks of memory, the run flag, the fault record, the counters and the two parameters alone. -/
theorem State.Inv.of_unchanged {s t : State} (h : s.Inv) (config : t.config = s.config := by rfl)
    (handler : t.sysHandler = s.sysHandler := by rfl) (mem : t.mem = s.mem := by rfl)
    (running : t.running = s.running := by rfl) (fault : t.fault = s.fault := by rfl)
    (instructions : t.instructionsExecuted = s.instructionsExecuted := by rfl)
    (cycles : t.cyclesExecuted = s.cyclesExecuted := by rfl) : t.Inv where
  config_wf := config ▸ h.config_wf
  mem_wf := mem ▸ h.mem_wf
  mem_inRange := by rw [config, mem]; exact h.mem_inRange
  fault_stops := by rw [fault, running]; exact h.fault_stops
  fault_legal := by rw [handler, fault, config]; exact h.fault_legal
  counters_agree := by rw [instructions, cycles]; exact h.counters_agree

theorem State.Inv.set8 {s : State} (h : s.Inv) (r : Reg8) (v : Byte) : (s.set8 r v).Inv := h.of_unchanged

theorem State.Inv.set16 {s : State} (h : s.Inv) (p : Reg16) (v : Word) : (s.set16 p v).Inv := h.of_unchanged

theorem State.Inv.flagsArith {s : State} (h : s.Inv) (raw : Int) (w : Nat) (carry : Bool) :
    (flagsArith raw w carry s).Inv := h.of_unchanged

theorem State.Inv.put8 {s : State} (h : s.Inv) (r : Reg8) (v : Byte) : (s.put8 r v).Inv := h.of_unchanged

theorem State.Inv.put16 {s : State} (h : s.Inv) (p : Reg16) (v : Word) : (s.put16 p v).Inv := by
  cases p <;> exact h.of_unchanged

/-- A jump writes pc or nothing (43_jumps_calls.md R140, R149). -/
theorem State.Inv.jump {s : State} (h : s.Inv) (taken : Bool) (a : Word) :
    (if taken then s.set16 .pc a else s).Inv := by
  split
  · exact h.set16 _ _
  · exact h

/-! ### The updates it speaks of -/

/-- Memory may become any canonical one inside the array. -/
theorem State.Inv.setMem {s : State} (h : s.Inv) {m : Memory} (hwf : Memory.wf m = true)
    (hin : Memory.inRange s.config.memSize m = true) : State.Inv { s with mem := m } :=
  { h with mem_wf := hwf, mem_inRange := hin }

theorem State.Inv.writeMem {s : State} (h : s.Inv) {a : Nat} (v : Byte) (ha : a < s.config.memSize) :
    State.Inv { s with mem := Memory.write s.mem a v } :=
  h.setMem (Memory.wf_write a v h.mem_wf) (Memory.inRange_write v ha h.mem_inRange)

/-- HALT stops the core, which no recorded fault forbids (40_control.md R93). -/
theorem State.Inv.halt {s : State} (h : s.Inv) : State.Inv { s with running := false } :=
  { h with fault_stops := fun _ => rfl }

theorem State.Inv.countInstruction {s : State} (h : s.Inv) : (countInstruction s).Inv :=
  { h with counters_agree := congrArg (· + 1) h.counters_agree }

/-- Taking a fault keeps the invariant where the fault is one the core may record. -/
theorem State.Inv.takeFault {s : State} {k : Fault} (h : s.Inv)
    (hk : s.sysHandler = none → k.legal s.config = true) : (takeFault k s).Inv :=
  { h with
    fault_stops := fun _ => rfl
    fault_legal := fun hs _ he => Option.some.inj he ▸ hk hs }

/-- The failed check of an access at an address up to 0x10000 may be recorded (10_state.md R35). -/
theorem State.Inv.takeFault_address {s : State} {a : Nat} (h : s.Inv) (hout : s.config.memSize ≤ a)
    (ha : a ≤ 0x10000) : (Machine.takeFault (.addressOutOfRange a) s).Inv :=
  h.takeFault fun _ => by simp [Fault.legal, hout, ha]

/-- So may a field that names no register (30_encoding.md R79). -/
theorem State.Inv.takeFault_code {s : State} {code : RegCode} (h : s.Inv) (hc : reg8OfCode code = none) :
    (Machine.takeFault (.invalidRegisterIdentifier code) s).Inv :=
  h.takeFault fun _ => decide_eq_true (reg8OfCode_eq_none.mp hc)

/-- A SYS_HANDLER leaves memory in its normal form, whatever it wrote (40_control.md R94, log entry 17). -/
theorem State.Inv.afterHandler {s : State} (h : s.Inv) (writesPc : Bool) (u : ArchState) :
    (s.afterHandler writesPc u).Inv :=
  (h.setMem (Memory.wf_normal _ u.mem) (Memory.inRange_normal _ u.mem)).of_unchanged

/-! ### Effects that keep the invariant -/

/-- The state an effect goes on in has the invariant, and so has the faulted state of one that raises. -/
def Effect.KeepsInv {α : Type} : Effect α → Prop
  | .done _ t => t.Inv
  | .raise k t => (takeFault k t).Inv

theorem Effect.KeepsInv.done {α : Type} {v : α} {t : State} (h : t.Inv) : (Effect.done v t).KeepsInv := h

theorem Effect.KeepsInv.andThen {α β : Type} {r : Effect α} {k : α → State → Effect β} (h : r.KeepsInv)
    (hk : ∀ v t, t.Inv → (k v t).KeepsInv) : (r.andThen k).KeepsInv := by
  cases r with
  | done v t => exact hk v t h
  | raise f t => exact h

/-- Where an outcome is a next state, it has the invariant. -/
def NextKeepsInv (o : Host.Outcome State Fault Refusal) : Prop := ∀ t, o = .next t → t.Inv

theorem NextKeepsInv.next {t : State} (h : t.Inv) : NextKeepsInv (.next t) := fun _ ht => by
  cases ht
  exact h

theorem NextKeepsInv.refused (r : Refusal) : NextKeepsInv (.refused r) := fun _ ht => nomatch ht

theorem finish_keepsInv {r : Effect Unit} (h : r.KeepsInv) : NextKeepsInv (finish r) := by
  cases r with
  | done _ t => exact .next (State.Inv.countInstruction h)
  | raise k t => exact .next h

/-- An instruction that raises nothing keeps the invariant where its last state has it. -/
theorem finish_done_keepsInv {t : State} (h : t.Inv) : NextKeepsInv (finish (.done () t)) := finish_keepsInv (.done h)

/-! ### Memory and stack -/

section
variable {s : State} {a : Nat}

theorem readByte_keepsInv (h : s.Inv) (ha : a ≤ 0x10000) : (readByte a s).KeepsInv := by
  rcases Nat.lt_or_ge a s.config.memSize with hin | hout
  · rw [readByte_in hin]
    exact h
  · rw [readByte_out hout]
    exact h.takeFault_address hout ha

theorem writeByte_keepsInv (h : s.Inv) (v : Byte) (ha : a ≤ 0x10000) : (writeByte a v s).KeepsInv := by
  rcases Nat.lt_or_ge a s.config.memSize with hin | hout
  · rw [writeByte_in v hin]
    exact h.writeMem v hin
  · rw [writeByte_out v hout]
    exact h.takeFault_address hout ha

theorem readWord_keepsInv (h : s.Inv) (ha : a < 0x10000) : (readWord a s).KeepsInv :=
  (readByte_keepsInv h ha.le).andThen fun _ _ h1 => (readByte_keepsInv h1 ha).andThen fun _ _ h2 => .done h2

/-- Whichever memory the free value of R55 picks, it is canonical and inside the array. -/
theorem State.Inv.partialWord (h : s.Inv) (v : Byte) (ha : a < s.config.memSize) :
    (Machine.partialWord s { s with mem := Memory.write s.mem a v }).Inv := by
  rw [partialWord_eq]
  split
  · exact (h.writeMem v ha).of_unchanged
  · exact h.of_unchanged

theorem writeWord_keepsInv (h : s.Inv) (v : Word) (ha : a < 0x10000) : (writeWord a v s).KeepsInv := by
  rcases Nat.lt_or_ge a s.config.memSize with hin | hout
  · rcases Nat.lt_or_ge (a + 1) s.config.memSize with hin1 | hout1
    · rw [writeWord_in v hin1]
      exact (h.writeMem _ hin).writeMem (s := { s with mem := _ }) _ hin1
    · rw [writeWord_edge v hin hout1]
      exact (h.partialWord _ hin).takeFault_address hout1 ha
  · rw [writeWord_out v hout]
    exact h.takeFault_address hout ha.le

theorem push8_keepsInv (h : s.Inv) (v : Byte) : (push8 v s).KeepsInv :=
  (writeByte_keepsInv h v s.sp.isLt.le).andThen fun _ _ h1 => .done (h1.set16 _ _)

theorem pop8_keepsInv (h : s.Inv) : (pop8 s).KeepsInv := readByte_keepsInv (h.set16 _ _) (BitVec.isLt _).le

theorem push16_keepsInv (h : s.Inv) (v : Word) : (push16 v s).KeepsInv :=
  (push8_keepsInv h _).andThen fun _ _ h1 => push8_keepsInv h1 _

theorem pop16_keepsInv (h : s.Inv) : (pop16 s).KeepsInv :=
  (pop8_keepsInv h).andThen fun _ _ h1 => (pop8_keepsInv h1).andThen fun _ _ h2 => .done h2

/-! ### Fetch -/

theorem fetch8_keepsInv (h : s.Inv) : (fetch8 s).KeepsInv :=
  (readByte_keepsInv h s.pc.isLt.le).andThen fun _ _ h1 => .done (h1.set16 _ _)

theorem fetch16_keepsInv (h : s.Inv) : (fetch16 s).KeepsInv :=
  (fetch8_keepsInv h).andThen fun _ _ h1 => (fetch8_keepsInv h1).andThen fun _ _ h2 => .done h2

theorem fetchOperands_keepsInv (h : s.Inv) (row : OpcodeRow) : (fetchOperands row s).KeepsInv := by
  cases row with
  | f0 i => exact h
  | f1 mk => exact (fetch8_keepsInv h).andThen fun _ _ h1 => .done h1
  | f2 mk => exact (fetch8_keepsInv h).andThen fun _ _ h1 => .done h1
  | f3 mk => exact (fetch16_keepsInv h).andThen fun _ _ h1 => .done h1

/-- The fetch may record an opcode only where OPCODE_MAP leaves it unassigned (40_control.md R96). -/
theorem fetchInstr_keepsInv (h : s.Inv) : (fetchInstr s).KeepsInv := by
  unfold fetchInstr
  rcases Nat.lt_or_ge s.pc.toNat s.config.memSize with hin | hout
  · rw [fetch8_in hin, Effect.andThen_done]
    have h1 := h.set16 .pc (s.pc + 1#16)
    split
    · next hrow => exact h1.takeFault fun _ => Option.isNone_iff_eq_none.mpr hrow
    · exact fetchOperands_keepsInv h1 _
  · rw [fetch8_out hout]
    exact h.takeFault_address hout s.pc.isLt.le

/-! ### The families of instructions -/

/-- A register-pair instruction keeps the invariant where its meaning on two registers does (30_encoding.md R79). -/
theorem withPair_keepsInv (h : s.Inv) (dst src : RegCode) {k : Reg8 → Reg8 → State → Effect Unit}
    (hk : ∀ x y, (k x y s).KeepsInv) : (withPair dst src k s).KeepsInv := by
  cases hd : reg8OfCode dst with
  | none =>
    rw [withPair_dst k s (reg8OfCode_eq_none.mp hd)]
    exact h.takeFault_code hd
  | some x =>
    cases hs : reg8OfCode src with
    | none =>
      rw [withPair_src k s hd (reg8OfCode_eq_none.mp hs)]
      exact h.takeFault_code hs
    | some y =>
      rw [withPair_valid k s hd hs]
      exact hk x y

/-- The 8-bit ALU instructions: every ALU primitive answers a value and the flags of a raw result (42_alu.md R110), and
the value goes to a register. -/
theorem alu8_keepsInv (h : s.Inv) (r : Reg8) (v : Byte) (raw : Int) (w : Nat) (carry : Bool) :
    (Effect.done () (State.result8 r (v, flagsArith raw w carry s))).KeepsInv := (h.flagsArith _ _ _).set8 _ _

/-- The 16-bit ALU instructions. -/
theorem alu16_keepsInv (h : s.Inv) (p : Reg16) (v : Word) (raw : Int) (w : Nat) (carry : Bool) :
    (Effect.done () (State.result16 p (v, flagsArith raw w carry s))).KeepsInv := (h.flagsArith _ _ _).set16 _ _

theorem compare_keepsInv (h : s.Inv) {w : Nat} (x y : BitVec w) :
    (Effect.done () (aluCompare x y s)).KeepsInv := h.flagsArith _ _ _

theorem loadA_keepsInv (h : s.Inv) (ha : a < 0x10000) : (loadA a s).KeepsInv :=
  (readByte_keepsInv h ha.le).andThen fun _ _ h1 => .done (h1.put8 _ _)

theorem storeA_keepsInv (h : s.Inv) (ha : a < 0x10000) : (storeA a s).KeepsInv := writeByte_keepsInv h _ ha.le

theorem loadAbs8_keepsInv (h : s.Inv) (r : Reg8) (a : Word) : (loadAbs8 r a s).KeepsInv :=
  (readByte_keepsInv h a.isLt.le).andThen fun _ _ h1 => .done (h1.put8 _ _)

theorem loadAbs16_keepsInv (h : s.Inv) (q : Reg16) (a : Word) : (loadAbs16 q a s).KeepsInv :=
  (readWord_keepsInv h a.isLt).andThen fun _ _ h1 => .done (h1.put16 _ _)

theorem popReg8_keepsInv (h : s.Inv) (r : Reg8) : (popReg8 r s).KeepsInv :=
  (pop8_keepsInv h).andThen fun _ _ h1 => .done (h1.put8 _ _)

theorem popReg16_keepsInv (h : s.Inv) (q : Reg16) : (popReg16 q s).KeepsInv :=
  (pop16_keepsInv h).andThen fun _ _ h1 => .done (h1.put16 _ _)

theorem callAbs_keepsInv (h : s.Inv) (a : Word) : (callAbs a s).KeepsInv :=
  (push16_keepsInv h _).andThen fun _ _ h1 => .done (h1.set16 _ _)

theorem returnFromCall_keepsInv (h : s.Inv) : (returnFromCall s).KeepsInv :=
  (pop16_keepsInv h).andThen fun _ _ h1 => .done (h1.set16 _ _)

/-- SYS: what a handler raises is its own, and the invariant asks nothing of it (40_control.md R94). -/
theorem execSys_keepsInv (h : s.Inv) (n : Byte) : NextKeepsInv (execSys n s) := by
  cases hs : s.sysHandler with
  | none =>
    rw [execSys_none hs]
    exact .refused _
  | some hd =>
    rw [execSys_some hs]
    cases hr : hd.reply n s.arch with
    | completes u =>
      rw [sysWith_completes _ hr]
      exact .next (h.afterHandler _ u).countInstruction
    | raises k u =>
      rw [sysWith_raises _ hr]
      exact .next ((h.afterHandler _ u).takeFault fun hn => absurd (hs.symm.trans hn) (Option.some_ne_none hd))
    | refuses =>
      rw [sysWith_refuses _ hr]
      exact .refused _

/-- Every instruction keeps the invariant, by the family it belongs to. -/
theorem exec_keepsInv (h : s.Inv) (i : Instr) : NextKeepsInv (exec i s) := by
  cases i with
  | nop => exact finish_done_keepsInv h
  | halt => exact finish_done_keepsInv h.halt
  | sys n => exact execSys_keepsInv h n
  | ldaImm | ldbImm | ldcImm | lddImm | ldeImm | ldfImm => exact finish_done_keepsInv (h.put8 _ _)
  | lddaImm | lddbImm | ldixImm | ldiyImm
  | movDaDb | movDbDa | movDaIdx | movDaIdy | movDbIdx | movDbIdy
  | movIdxDa | movIdyDa | movIdxDb | movIdyDb | movIdxIdy | movIdyIdx =>
    exact finish_done_keepsInv (h.put16 _ _)
  | ldaAbs | ldbAbs | ldcAbs | lddAbs | ldeAbs | ldfAbs => exact finish_keepsInv (loadAbs8_keepsInv h _ _)
  | lddaAbs | lddbAbs | ldixAbs | ldiyAbs => exact finish_keepsInv (loadAbs16_keepsInv h _ _)
  | staAbs a | stbAbs a | stcAbs a | stdAbs a | steAbs a | stfAbs a =>
    exact finish_keepsInv (writeByte_keepsInv h _ a.isLt.le)
  | stdaAbs a | stdbAbs a => exact finish_keepsInv (writeWord_keepsInv h _ a.isLt)
  | incA | incB | incC | incD | incE | incF | decA | decB | decC | decD | decE | decF
  | notA | notB | notC | notD | notE | notF | shlA | shlB | shlC | shlD | shlE | shlF
  | shrA | shrB | shrC | shrD | shrE | shrF => exact finish_keepsInv (alu8_keepsInv h _ _ _ _ _)
  | incDa | incDb | decDa | decDb | addDaDb | addDbDa | subDaDb | subDbDa =>
    exact finish_keepsInv (alu16_keepsInv h _ _ _ _ _)
  | cmpAImm | cmpBImm | cmpCImm | cmpDImm | cmpEImm | cmpFImm | cmpDaImm | cmpDbImm | cmpDaDb | cmpDbDa =>
    exact finish_keepsInv (compare_keepsInv h _ _)
  | addReg | subReg | andReg | orReg | xorReg =>
    exact finish_keepsInv (withPair_keepsInv h _ _ fun _ _ => alu8_keepsInv h _ _ _ _ _)
  | cmpReg => exact finish_keepsInv (withPair_keepsInv h _ _ fun _ _ => compare_keepsInv h _ _)
  | movReg => exact finish_keepsInv (withPair_keepsInv h _ _ fun _ _ => .done (h.put8 _ _))
  | swapReg => exact finish_keepsInv (withPair_keepsInv h _ _ fun _ _ => .done ((h.set8 _ _).set8 _ _))
  | swapDaDb | swapIdxIdy => exact finish_done_keepsInv ((h.set16 _ _).set16 _ _)
  | pushA | pushB | pushC | pushD | pushE | pushF => exact finish_keepsInv (push8_keepsInv h _)
  | pushDa | pushDb => exact finish_keepsInv (push16_keepsInv h _)
  | popA | popB | popC | popD | popE | popF => exact finish_keepsInv (popReg8_keepsInv h _)
  | popDa | popDb => exact finish_keepsInv (popReg16_keepsInv h _)
  | jmp | jz | jnz | jc | jnc | jn | jnn | jr | jrz | jrnz | jrc => exact finish_done_keepsInv (h.jump _ _)
  | call a => exact finish_keepsInv (callAbs_keepsInv h a)
  | ret => exact finish_keepsInv (returnFromCall_keepsInv h)
  | incIdx | incIdy | decIdx | decIdy | addIdxImm | addIdyImm =>
    exact finish_done_keepsInv (h.set16 _ _)
  | ldaIdx | ldaIdy | ldaIdxDisp | ldaIdyDisp => exact finish_keepsInv (loadA_keepsInv h (BitVec.isLt _))
  | staIdx | staIdy | staIdxDisp | staIdyDisp => exact finish_keepsInv (storeA_keepsInv h (BitVec.isLt _))
  | ldaIdxInc | ldaIdyInc | ldaIdxDec | ldaIdyDec =>
    exact finish_keepsInv (.andThen (loadA_keepsInv h (BitVec.isLt _)) fun _ _ h1 => .done (h1.set16 _ _))
  | staIdxInc | staIdyInc | staIdxDec | staIdyDec =>
    exact finish_keepsInv (.andThen (storeA_keepsInv h (BitVec.isLt _)) fun _ _ h1 => .done (h1.set16 _ _))

/-- One step: fetch and execute, take the fault of the fetch, or do nothing (40_control.md R90, R95). -/
theorem step_keepsInv (h : s.Inv) : NextKeepsInv (step s) := by
  unfold step
  have hfetch := fetchInstr_keepsInv h
  split
  · cases hf : fetchInstr s with
    | done i t =>
      rw [hf] at hfetch
      exact exec_keepsInv hfetch i
    | raise k t =>
      rw [hf] at hfetch
      exact .next hfetch
  · exact .next h

end

/-- Settles O8: the fetch keeps the invariant, and so does every family of instructions. -/
theorem stepKeepsInvariant : Obligations.StepKeepsInvariant := fun _ t hs ht => step_keepsInv hs t ht

end Sys2Proof.Machine
end

section
/-!
The state right after Reset, and the packed status value (O9, O22, O27).
-/

namespace Sys2Proof.Machine

/-! ### Reset -/

/-- R7: the range of MEM_SIZE. -/
theorem memSize_range_of_wf {c : Config} (h : c.wf = true) : 1 ≤ c.memSize ∧ c.memSize ≤ 65536 := by
  simp only [Config.wf, Bool.and_eq_true, decide_eq_true_eq] at h
  obtain ⟨⟨⟨hpos, hmax⟩, _⟩, _⟩ := h
  exact ⟨hpos, hmax⟩

@[simp] theorem hostReset_get8 (r : Reg8) (s : State) : (hostReset s).get8 r = 0 := by cases r <;> rfl

theorem hostReset_get16 {q : Reg16} (s : State) (hpc : q ≠ .pc) (hsp : q ≠ .sp) : (hostReset s).get16 q = 0 := by
  cases q with
  | da | db | idx | idy => rfl
  | pc => exact absurd rfl hpc
  | sp => exact absurd rfl hsp

/-- R230, D15: MEM_SIZE - 1 fits in SP, because MEM_SIZE is at most 65536. -/
theorem hostReset_sp_toNat {s : State} (h : s.config.wf = true) : (hostReset s).sp.toNat = s.config.memSize - 1 := by
  obtain ⟨_, hmax⟩ := memSize_range_of_wf h
  exact Nat.mod_eq_of_lt (by omega)

/-- Reset makes the invariant of a core whose parameters and memory are as they should be: it clears the record and both
counters. -/
theorem hostReset_inv {s : State} (hconfig : s.config.wf = true) (hwf : Memory.wf s.mem = true)
    (hin : Memory.inRange s.config.memSize s.mem = true) : (hostReset s).Inv where
  config_wf := hconfig
  mem_wf := hwf
  mem_inRange := hin
  fault_stops := fun _ => rfl
  fault_legal := fun _ _ hk => nomatch hk
  counters_agree := rfl

/-- `State.reset` is the state Reset leaves of it. -/
theorem hostReset_reset : hostReset State.reset = State.reset := rfl

/-- Settles O9: the standard parameters are in their ranges, and the launch memory has no entry. -/
theorem resetHasInvariant : Obligations.ResetHasInvariant := by
  unfold Obligations.ResetHasInvariant
  rw [← hostReset_reset]
  exact hostReset_inv (by decide) rfl rfl

/-- Settles O22: the registers by their lemmas, and each other field by the definition of Reset. -/
theorem resetLeaves : Obligations.ResetLeaves := fun s hconfig =>
  ⟨fun r => hostReset_get8 r s, fun _ => hostReset_get16 s, rfl, hostReset_sp_toNat hconfig, rfl, rfl, rfl, rfl, rfl,
    rfl, rfl, rfl, rfl, rfl⟩

/-! ### The packed status value -/

/-- The four flags are the binary digits of the packed value, which fits its octet. -/
theorem statusByte_toNat (g : Flags) :
    (statusByte g).toNat = g.z.toNat + 2 * g.c.toNat + 4 * g.o.toNat + 8 * g.n.toNat := by
  have hz := g.z.toNat_le
  have hc := g.c.toNat_le
  have ho := g.o.toNat_le
  have hn := g.n.toNat_le
  exact Nat.mod_eq_of_lt (by omega)

theorem getLsbD_of_digit {w i : Nat} {v : BitVec w} {b : Bool} (h : v.toNat / 2 ^ i % 2 = b.toNat) :
    v.getLsbD i = b := by
  rw [BitVec.getLsbD, Nat.testBit_eq_decide_div_mod_eq, h]
  cases b <;> rfl

/-- Settles O27: each bit is a binary digit of the sum of R33. -/
theorem statusPacking : Obligations.StatusPacking := fun g => by
  have hv := statusByte_toNat g
  have hz := g.z.toNat_le
  have hc := g.c.toNat_le
  have ho := g.o.toNat_le
  have hn := g.n.toNat_le
  refine ⟨getLsbD_of_digit ?_, getLsbD_of_digit ?_, getLsbD_of_digit ?_, getLsbD_of_digit ?_, ?_⟩ <;> omega

end Sys2Proof.Machine
end

section
/-!
Only the stack instructions move SP (O15).

`Effect.Keeps16 q s` says of an effect that the state it leaves, the one it raises a fault in included, has the 16-bit
register `q` of `s`. It holds of the memory primitives whatever `q` is, and is carried along `andThen`; so an instruction
keeps SP where none of its own writes names it.
-/

namespace Sys2Proof.Machine

/-! ### Effects that keep a 16-bit register -/

/-- The state an effect ends in has the 16-bit register `q` of `s`. -/
def Effect.Keeps16 {α : Type} (q : Reg16) (s : State) : Effect α → Prop
  | .done _ t => t.get16 q = s.get16 q
  | .raise _ t => t.get16 q = s.get16 q

theorem Effect.Keeps16.done {α : Type} {q : Reg16} {s t : State} {v : α} (h : t.get16 q = s.get16 q) :
    (Effect.done v t).Keeps16 q s := h

theorem Effect.Keeps16.andThen {α β : Type} {q : Reg16} {s : State} {r : Effect α} {k : α → State → Effect β}
    (h : r.Keeps16 q s) (hk : ∀ v t, (k v t).Keeps16 q t) : (r.andThen k).Keeps16 q s := by
  cases r with
  | raise f t => exact h
  | done v t =>
    have ht : t.get16 q = s.get16 q := h
    have hkt := hk v t
    rw [Effect.andThen_done]
    cases hr : k v t with
    | done w u | raise f u =>
      rw [hr] at hkt
      exact hkt.trans ht

/-- Where an outcome is a next state, it has the 16-bit register `q` of `s`. -/
def NextKeeps16 (q : Reg16) (s : State) (o : Host.Outcome State Fault Refusal) : Prop :=
  ∀ t, o = .next t → t.get16 q = s.get16 q

section
variable {q : Reg16} {s : State}

/-- The end of an instruction writes no register. -/
theorem finish_keeps16 {r : Effect Unit} (h : r.Keeps16 q s) : NextKeeps16 q s (finish r) := by
  rintro t ht
  cases r with
  | done v u =>
    cases ht
    rw [State.get16_countInstruction]
    exact h
  | raise k u =>
    cases ht
    rw [State.get16_takeFault]
    exact h

theorem finish_done_keeps16 {t : State} (h : t.get16 q = s.get16 q) : NextKeeps16 q s (finish (.done () t)) :=
  finish_keeps16 (.done h)

/-! ### Writes of other registers -/

@[simp] theorem State.get16_put8 (q : Reg16) (r : Reg8) (v : Byte) (s : State) : (s.put8 r v).get16 q = s.get16 q := by
  rw [State.put8, State.get16_setZ, State.get16_set8]

theorem State.get16_put16_other {p : Reg16} (v : Word) (s : State) (h : q ≠ p) :
    (s.put16 p v).get16 q = s.get16 q := by
  cases p with
  | da | db => exact (State.get16_setZ q v _).trans (State.get16_set16_other v s h)
  | idx | idy | pc | sp => exact State.get16_set16_other v s h

/-- A jump writes pc or nothing (43_jumps_calls.md R140, R149). -/
theorem State.get16_jump (h : q ≠ .pc) (taken : Bool) (a : Word) (s : State) :
    (if taken then s.set16 .pc a else s).get16 q = s.get16 q := by
  split
  · exact State.get16_set16_other a s h
  · rfl

/-! ### Memory -/

theorem readByte_keeps16 (a : Nat) : (readByte a s).Keeps16 q s := by
  rcases Nat.lt_or_ge a s.config.memSize with hin | hout
  · rw [readByte_in hin]
    rfl
  · rw [readByte_out hout]
    rfl

theorem writeByte_keeps16 (a : Nat) (v : Byte) : (writeByte a v s).Keeps16 q s := by
  rcases Nat.lt_or_ge a s.config.memSize with hin | hout
  · rw [writeByte_in v hin]
    exact State.get16_mem q _ s
  · rw [writeByte_out v hout]
    rfl

theorem readWord_keeps16 (a : Nat) : (readWord a s).Keeps16 q s :=
  (readByte_keeps16 a).andThen fun _ _ => (readByte_keeps16 (a + 1)).andThen fun _ _ => .done rfl

theorem writeWord_keeps16 (a : Nat) (v : Word) : (writeWord a v s).Keeps16 q s := by
  rcases Nat.lt_or_ge a s.config.memSize with hin | hout
  · rcases Nat.lt_or_ge (a + 1) s.config.memSize with hin1 | hout1
    · rw [writeWord_in v hin1]
      exact State.get16_mem q _ s
    · rw [writeWord_edge v hin hout1, partialWord_eq]
      cases q <;> rfl
  · rw [writeWord_out v hout]
    rfl

/-! ### The families of instructions -/

theorem withPair_keeps16 (dst src : RegCode) {k : Reg8 → Reg8 → State → Effect Unit}
    (hk : ∀ x y, (k x y s).Keeps16 q s) : (withPair dst src k s).Keeps16 q s := by
  cases hd : reg8OfCode dst with
  | none =>
    rw [withPair_dst k s (reg8OfCode_eq_none.mp hd)]
    rfl
  | some x =>
    cases hs : reg8OfCode src with
    | none =>
      rw [withPair_src k s hd (reg8OfCode_eq_none.mp hs)]
      rfl
    | some y =>
      rw [withPair_valid k s hd hs]
      exact hk x y

/-- The 8-bit ALU instructions write flags and an 8-bit register (42_alu.md R110). -/
theorem alu8_keeps16 (r : Reg8) (v : Byte) (raw : Int) (w : Nat) (carry : Bool) :
    (Effect.done () (State.result8 r (v, flagsArith raw w carry s))).Keeps16 q s :=
  (State.get16_set8 q r v _).trans (State.get16_flagsArith q raw w carry s)

theorem alu16_keeps16 {p : Reg16} (h : q ≠ p) (v : Word) (raw : Int) (w : Nat) (carry : Bool) :
    (Effect.done () (State.result16 p (v, flagsArith raw w carry s))).Keeps16 q s :=
  (State.get16_set16_other v _ h).trans (State.get16_flagsArith q raw w carry s)

theorem compare_keeps16 {w : Nat} (x y : BitVec w) : (Effect.done () (aluCompare x y s)).Keeps16 q s :=
  State.get16_flagsArith q _ w _ s

theorem loadA_keeps16 (a : Nat) : (loadA a s).Keeps16 q s :=
  (readByte_keeps16 a).andThen fun _ _ => .done (State.get16_put8 _ _ _ _)

theorem loadAbs8_keeps16 (r : Reg8) (a : Word) : (loadAbs8 r a s).Keeps16 q s :=
  (readByte_keeps16 _).andThen fun _ _ => .done (State.get16_put8 _ _ _ _)

theorem loadAbs16_keeps16 {p : Reg16} (h : q ≠ p) (a : Word) : (loadAbs16 p a s).Keeps16 q s :=
  (readWord_keeps16 _).andThen fun _ _ => .done (State.get16_put16_other _ _ h)

/-- A post-modified access writes its pointer alone among the 16-bit registers (45_indexed.md R180 to R183). -/
theorem Effect.Keeps16.thenPointer {p : Reg16} {f : State → Word} {r : Effect Unit} (h : r.Keeps16 q s) (hp : q ≠ p) :
    (r.andThen fun _ t => .done () (t.set16 p (f t))).Keeps16 q s :=
  h.andThen fun _ _ => .done (State.get16_set16_other _ _ hp)

end

/-! ### SP -/

/-- 10_state.md R37: PUSH, POP, CALL, RET and SYS are the instructions that may write SP; every other one keeps it. -/
theorem exec_keeps_sp_or (i : Instr) (s : State) :
    NextKeeps16 .sp s (exec i s) ∨
    i ∈ [.pushA, .pushB, .pushC, .pushD, .pushE, .pushF, .pushDa, .pushDb,
         .popA, .popB, .popC, .popD, .popE, .popF, .popDa, .popDb, .ret] ∨ (∃ a, i = .call a) ∨ ∃ n, i = .sys n := by
  cases i with
  | pushA | pushB | pushC | pushD | pushE | pushF | pushDa | pushDb
  | popA | popB | popC | popD | popE | popF | popDa | popDb | ret => exact .inr (.inl (by simp))
  | call a => exact .inr (.inr (.inl ⟨a, rfl⟩))
  | sys n => exact .inr (.inr (.inr ⟨n, rfl⟩))
  | nop | halt => exact .inl (finish_done_keeps16 rfl)
  | ldaImm | ldbImm | ldcImm | lddImm | ldeImm | ldfImm =>
    exact .inl (finish_done_keeps16 (State.get16_put8 _ _ _ _))
  | lddaImm | lddbImm | ldixImm | ldiyImm
  | movDaDb | movDbDa | movDaIdx | movDaIdy | movDbIdx | movDbIdy
  | movIdxDa | movIdyDa | movIdxDb | movIdyDb | movIdxIdy | movIdyIdx =>
    exact .inl (finish_done_keeps16 (State.get16_put16_other _ _ (by decide)))
  | ldaAbs | ldbAbs | ldcAbs | lddAbs | ldeAbs | ldfAbs => exact .inl (finish_keeps16 (loadAbs8_keeps16 _ _))
  | lddaAbs | lddbAbs | ldixAbs | ldiyAbs => exact .inl (finish_keeps16 (loadAbs16_keeps16 (by decide) _))
  | staAbs | stbAbs | stcAbs | stdAbs | steAbs | stfAbs | staIdx | staIdy | staIdxDisp | staIdyDisp =>
    exact .inl (finish_keeps16 (writeByte_keeps16 _ _))
  | stdaAbs | stdbAbs => exact .inl (finish_keeps16 (writeWord_keeps16 _ _))
  | incA | incB | incC | incD | incE | incF | decA | decB | decC | decD | decE | decF
  | notA | notB | notC | notD | notE | notF | shlA | shlB | shlC | shlD | shlE | shlF
  | shrA | shrB | shrC | shrD | shrE | shrF => exact .inl (finish_keeps16 (alu8_keeps16 _ _ _ _ _))
  | incDa | incDb | decDa | decDb | addDaDb | addDbDa | subDaDb | subDbDa =>
    exact .inl (finish_keeps16 (alu16_keeps16 (by decide) _ _ _ _))
  | cmpAImm | cmpBImm | cmpCImm | cmpDImm | cmpEImm | cmpFImm | cmpDaImm | cmpDbImm | cmpDaDb | cmpDbDa =>
    exact .inl (finish_keeps16 (compare_keeps16 _ _))
  | addReg | subReg | andReg | orReg | xorReg =>
    exact .inl (finish_keeps16 (withPair_keeps16 _ _ fun _ _ => alu8_keeps16 _ _ _ _ _))
  | cmpReg => exact .inl (finish_keeps16 (withPair_keeps16 _ _ fun _ _ => compare_keeps16 _ _))
  | movReg => exact .inl (finish_keeps16 (withPair_keeps16 _ _ fun _ _ => State.get16_put8 _ _ _ _))
  | swapReg =>
    exact .inl (finish_keeps16 (withPair_keeps16 _ _ fun _ _ =>
      (State.get16_set8 _ _ _ _).trans (State.get16_set8 _ _ _ _)))
  | swapDaDb | swapIdxIdy =>
    exact .inl (finish_done_keeps16
      ((State.get16_set16_other _ _ (by decide)).trans (State.get16_set16_other _ _ (by decide))))
  | jmp | jz | jnz | jc | jnc | jn | jnn | jr | jrz | jrnz | jrc =>
    exact .inl (finish_done_keeps16 (State.get16_jump (by decide) _ _ _))
  | incIdx | incIdy | decIdx | decIdy | addIdxImm | addIdyImm =>
    exact .inl (finish_done_keeps16 (State.get16_set16_other _ _ (by decide)))
  | ldaIdx | ldaIdy | ldaIdxDisp | ldaIdyDisp => exact .inl (finish_keeps16 (loadA_keeps16 _))
  | ldaIdxInc | ldaIdyInc | ldaIdxDec | ldaIdyDec =>
    exact .inl (finish_keeps16 ((loadA_keeps16 _).thenPointer (by decide)))
  | staIdxInc | staIdyInc | staIdxDec | staIdyDec =>
    exact .inl (finish_keeps16 ((writeByte_keeps16 _ _).thenPointer (by decide)))

/-- Settles O15: SP moves only under an instruction that may write it, and a SYS that answers a next state runs a
handler. -/
theorem onlyStackInstructionsMoveSp : Obligations.OnlyStackInstructionsMoveSp := by
  intro i s t hexec hsp
  rcases exec_keeps_sp_or i s with hkeeps | hstack | hcall | ⟨n, rfl⟩
  · exact absurd (hkeeps t hexec) hsp
  · exact .inl hstack
  · exact .inr (.inl hcall)
  · cases hs : s.sysHandler with
    | none => cases (execSys_none hs).symm.trans hexec
    | some hd => exact .inr (.inr ⟨n, hd, rfl, rfl⟩)

end Sys2Proof.Machine
end

section
/-!
No instruction reads Overflow (O16).

`Unread` is the part of the state that no instruction reads: Overflow, and the clock mode and counters beside it.
`Twin Q s u` says that `u` is `s` but for that part, and that `Q` relates the two parts. Where `Q` survives what an
instruction writes there (`Unread.Carried`), every operation takes twins to twins: it answers the same value or the same
fault. So each instruction but SYS takes twins to twins, and so does the fetch.
-/

namespace Sys2Proof.Machine

/-! ### Twins -/

/-- The part of the state that no instruction reads (10_state.md R31, 70_reset_and_hazards.md R240). -/
structure Unread where
  overflow : Bool
  mode : Option ClockMode
  instructionsExecuted : Nat
  cyclesExecuted : Nat

def State.unread (s : State) : Unread where
  overflow := s.flags.o
  mode := s.mode
  instructionsExecuted := s.instructionsExecuted
  cyclesExecuted := s.cyclesExecuted

/-- The state with another such part. -/
def State.withUnread (y : Unread) (s : State) : State :=
  { s with
    flags := { s.flags with o := y.overflow }
    mode := y.mode
    instructionsExecuted := y.instructionsExecuted
    cyclesExecuted := y.cyclesExecuted }

@[simp] theorem State.withUnread_config (y : Unread) (s : State) : (s.withUnread y).config = s.config := rfl

@[simp] theorem State.withUnread_running (y : Unread) (s : State) : (s.withUnread y).running = s.running := rfl

/-- A relation between two such parts that holds on when both take the same draw of Overflow (R30) and when both count
an instruction (60_exceptions.md R226). -/
structure Unread.Carried (Q : Unread → Unread → Prop) : Prop where
  draw : ∀ {x y : Unread}, Q x y → ∀ o, Q { x with overflow := o } { y with overflow := o }
  count : ∀ {x y : Unread}, Q x y →
    Q { x with instructionsExecuted := x.instructionsExecuted + 1, cyclesExecuted := x.cyclesExecuted + 1 }
      { y with instructionsExecuted := y.instructionsExecuted + 1, cyclesExecuted := y.cyclesExecuted + 1 }

/-- Two states that are the same but for the unread part, with the parts related. -/
def Twin (Q : Unread → Unread → Prop) (s u : State) : Prop := ∃ y, u = s.withUnread y ∧ Q s.unread y

section
variable {Q : Unread → Unread → Prop} {s u : State}

theorem Twin.set8 (h : Twin Q s u) (r : Reg8) (v : Byte) : Twin Q (s.set8 r v) (u.set8 r v) := by
  obtain ⟨y, rfl, hy⟩ := h
  exact ⟨y, rfl, hy⟩

theorem Twin.set16 (h : Twin Q s u) (p : Reg16) (v : Word) : Twin Q (s.set16 p v) (u.set16 p v) := by
  obtain ⟨y, rfl, hy⟩ := h
  exact ⟨y, rfl, hy⟩

theorem Twin.setZ (h : Twin Q s u) {w : Nat} (v : BitVec w) : Twin Q (setZ v s) (setZ v u) := by
  obtain ⟨y, rfl, hy⟩ := h
  exact ⟨y, rfl, hy⟩

theorem Twin.put8 (h : Twin Q s u) (r : Reg8) (v : Byte) : Twin Q (s.put8 r v) (u.put8 r v) := (h.set8 r v).setZ v

theorem Twin.put16 (h : Twin Q s u) (p : Reg16) (v : Word) : Twin Q (s.put16 p v) (u.put16 p v) := by
  cases p with
  | da | db => exact (h.set16 _ v).setZ v
  | idx | idy | pc | sp => exact h.set16 _ v

theorem Twin.setMem (h : Twin Q s u) (m : Memory) : Twin Q { s with mem := m } { u with mem := m } := by
  obtain ⟨y, rfl, hy⟩ := h
  exact ⟨y, rfl, hy⟩

theorem Twin.halt (h : Twin Q s u) : Twin Q { s with running := false } { u with running := false } := by
  obtain ⟨y, rfl, hy⟩ := h
  exact ⟨y, rfl, hy⟩

theorem Twin.takeFault (h : Twin Q s u) (k : Fault) : Twin Q (takeFault k s) (takeFault k u) := by
  obtain ⟨y, rfl, hy⟩ := h
  exact ⟨y, rfl, hy⟩

/-- Where the first byte of a partial word write goes, and that it is a draw, is the same for both (R55). -/
theorem Twin.partialWord (h : Twin Q s u) (m : Memory) :
    Twin Q (partialWord s { s with mem := m }) (partialWord u { u with mem := m }) := by
  obtain ⟨y, rfl, hy⟩ := h
  exact ⟨y, rfl, hy⟩

theorem Twin.countInstruction (hQ : Unread.Carried Q) (h : Twin Q s u) :
    Twin Q (countInstruction s) (countInstruction u) := by
  obtain ⟨y, rfl, hy⟩ := h
  exact ⟨_, rfl, hQ.count hy⟩

/-- The ALU flags of the same raw result: Overflow is the same draw (R30). -/
theorem Twin.flagsArith (hQ : Unread.Carried Q) (h : Twin Q s u) (raw : Int) (w : Nat) (carry : Bool) :
    Twin Q (flagsArith raw w carry s) (flagsArith raw w carry u) := by
  obtain ⟨y, rfl, hy⟩ := h
  exact ⟨_, rfl, hQ.draw hy _⟩

end

/-! ### Effects on twins -/

/-- Two effects answer the same value or the same fault, in twins. -/
inductive Effect.Twins {α : Type} (Q : Unread → Unread → Prop) : Effect α → Effect α → Prop where
  | done (v : α) {s u : State} (h : Twin Q s u) : Twins Q (.done v s) (.done v u)
  | raise (k : Fault) {s u : State} (h : Twin Q s u) : Twins Q (.raise k s) (.raise k u)

theorem Effect.Twins.andThen {α β : Type} {Q : Unread → Unread → Prop} {r r' : Effect α}
    {k k' : α → State → Effect β} (h : Twins Q r r')
    (hk : ∀ v s u, Twin Q s u → Twins Q (k v s) (k' v u)) : Twins Q (r.andThen k) (r'.andThen k') := by
  cases h with
  | done v h => exact hk v _ _ h
  | raise f h => exact .raise f h

/-- Where the first outcome is a next state, so is the second, and the two are twins. -/
def NextTwins (Q : Unread → Unread → Prop) (o o' : Host.Outcome State Fault Refusal) : Prop :=
  ∀ t, o = .next t → ∃ u, o' = .next u ∧ Twin Q t u

theorem NextTwins.next {Q : Unread → Unread → Prop} {s u : State} (h : Twin Q s u) :
    NextTwins Q (.next s) (.next u) := fun t ht => by
  cases ht
  exact ⟨u, rfl, h⟩

section
variable {Q : Unread → Unread → Prop} {s u : State}

theorem finish_twins (hQ : Unread.Carried Q) {r r' : Effect Unit} (h : r.Twins Q r') :
    NextTwins Q (finish r) (finish r') := by
  cases h with
  | done _ h => exact .next (h.countInstruction hQ)
  | raise k h => exact .next (h.takeFault k)

/-! ### Memory and stack -/

theorem readByte_twins (h : Twin Q s u) (a : Nat) : (readByte a s).Twins Q (readByte a u) := by
  obtain ⟨y, rfl, hy⟩ := id h
  rcases Nat.lt_or_ge a s.config.memSize with hin | hout
  · rw [readByte_in hin, readByte_in (s := s.withUnread y) hin]
    exact .done _ h
  · rw [readByte_out hout, readByte_out (s := s.withUnread y) hout]
    exact .raise _ h

theorem writeByte_twins (h : Twin Q s u) (a : Nat) (v : Byte) : (writeByte a v s).Twins Q (writeByte a v u) := by
  obtain ⟨y, rfl, hy⟩ := id h
  rcases Nat.lt_or_ge a s.config.memSize with hin | hout
  · rw [writeByte_in v hin, writeByte_in (s := s.withUnread y) v hin]
    exact .done _ (h.setMem _)
  · rw [writeByte_out v hout, writeByte_out (s := s.withUnread y) v hout]
    exact .raise _ h

theorem readWord_twins (h : Twin Q s u) (a : Nat) : (readWord a s).Twins Q (readWord a u) :=
  (readByte_twins h a).andThen fun _ _ _ h1 => (readByte_twins h1 (a + 1)).andThen fun _ _ _ h2 => .done _ h2

theorem writeWord_twins (h : Twin Q s u) (a : Nat) (v : Word) : (writeWord a v s).Twins Q (writeWord a v u) := by
  obtain ⟨y, rfl, hy⟩ := id h
  rcases Nat.lt_or_ge a s.config.memSize with hin | hout
  · rcases Nat.lt_or_ge (a + 1) s.config.memSize with hin1 | hout1
    · rw [writeWord_in v hin1, writeWord_in (s := s.withUnread y) v hin1]
      exact .done _ (h.setMem _)
    · rw [writeWord_edge v hin hout1, writeWord_edge (s := s.withUnread y) v hin hout1]
      exact .raise _ (h.partialWord _)
  · rw [writeWord_out v hout, writeWord_out (s := s.withUnread y) v hout]
    exact .raise _ h

theorem push8_twins (h : Twin Q s u) (v : Byte) : (push8 v s).Twins Q (push8 v u) := by
  obtain ⟨y, rfl, hy⟩ := id h
  refine (writeByte_twins h s.sp.toNat v).andThen fun _ s1 u1 h1 => ?_
  obtain ⟨y1, rfl, hy1⟩ := id h1
  exact .done _ (h1.set16 .sp _)

theorem pop8_twins (h : Twin Q s u) : (pop8 s).Twins Q (pop8 u) := by
  obtain ⟨y, rfl, hy⟩ := id h
  exact readByte_twins (h.set16 .sp (s.sp + 1#16)) (s.sp + 1#16).toNat

theorem push16_twins (h : Twin Q s u) (v : Word) : (push16 v s).Twins Q (push16 v u) :=
  (push8_twins h _).andThen fun _ _ _ h1 => push8_twins h1 _

theorem pop16_twins (h : Twin Q s u) : (pop16 s).Twins Q (pop16 u) :=
  (pop8_twins h).andThen fun _ _ _ h1 => (pop8_twins h1).andThen fun _ _ _ h2 => .done _ h2

/-! ### Fetch -/

theorem fetch8_twins (h : Twin Q s u) : (fetch8 s).Twins Q (fetch8 u) := by
  obtain ⟨y, rfl, hy⟩ := id h
  refine (readByte_twins h s.pc.toNat).andThen fun v s1 u1 h1 => ?_
  obtain ⟨y1, rfl, hy1⟩ := id h1
  exact .done v (h1.set16 .pc _)

theorem fetch16_twins (h : Twin Q s u) : (fetch16 s).Twins Q (fetch16 u) :=
  (fetch8_twins h).andThen fun _ _ _ h1 => (fetch8_twins h1).andThen fun _ _ _ h2 => .done _ h2

theorem fetchOperands_twins (h : Twin Q s u) (row : OpcodeRow) :
    (fetchOperands row s).Twins Q (fetchOperands row u) := by
  cases row with
  | f0 i => exact .done i h
  | f1 mk => exact (fetch8_twins h).andThen fun _ _ _ h1 => .done _ h1
  | f2 mk => exact (fetch8_twins h).andThen fun _ _ _ h1 => .done _ h1
  | f3 mk => exact (fetch16_twins h).andThen fun _ _ _ h1 => .done _ h1

/-- Twins fetch the same instruction, or raise the same fault. -/
theorem fetchInstr_twins (h : Twin Q s u) : (fetchInstr s).Twins Q (fetchInstr u) := by
  obtain ⟨y, rfl, hy⟩ := id h
  refine (fetch8_twins h).andThen fun op s1 u1 h1 => ?_
  rw [State.withUnread_config]
  cases rowOf s.config.opcodeMap op with
  | none => exact .raise _ h1
  | some row => exact fetchOperands_twins h1 row

/-! ### The families of instructions -/

/-- Twins check a register-pair byte alike (30_encoding.md R79). -/
theorem withPair_twins (h : Twin Q s u) (dst src : RegCode) {k : Reg8 → Reg8 → State → Effect Unit}
    (hk : ∀ x y, (k x y s).Twins Q (k x y u)) : (withPair dst src k s).Twins Q (withPair dst src k u) := by
  cases hd : reg8OfCode dst with
  | none =>
    rw [withPair_dst k s (reg8OfCode_eq_none.mp hd), withPair_dst k u (reg8OfCode_eq_none.mp hd)]
    exact .raise _ h
  | some x =>
    cases hs : reg8OfCode src with
    | none =>
      rw [withPair_src k s hd (reg8OfCode_eq_none.mp hs), withPair_src k u hd (reg8OfCode_eq_none.mp hs)]
      exact .raise _ h
    | some y =>
      rw [withPair_valid k s hd hs, withPair_valid k u hd hs]
      exact hk x y

/-- The 8-bit ALU instructions: a value and the flags of a raw result (42_alu.md R110), both computed from operands. -/
theorem alu8_twins (hQ : Unread.Carried Q) (h : Twin Q s u) (r : Reg8) (v : Byte) (raw : Int) (w : Nat)
    (carry : Bool) :
    (Effect.done () (State.result8 r (v, flagsArith raw w carry s))).Twins Q
      (.done () (State.result8 r (v, flagsArith raw w carry u))) := .done () ((h.flagsArith hQ _ _ _).set8 _ _)

/-- The 16-bit ALU instructions. -/
theorem alu16_twins (hQ : Unread.Carried Q) (h : Twin Q s u) (p : Reg16) (v : Word) (raw : Int) (w : Nat)
    (carry : Bool) :
    (Effect.done () (State.result16 p (v, flagsArith raw w carry s))).Twins Q
      (.done () (State.result16 p (v, flagsArith raw w carry u))) := .done () ((h.flagsArith hQ _ _ _).set16 _ _)

theorem compare_twins (hQ : Unread.Carried Q) (h : Twin Q s u) {w : Nat} (x y : BitVec w) :
    (Effect.done () (aluCompare x y s)).Twins Q (.done () (aluCompare x y u)) := .done () (h.flagsArith hQ _ _ _)

theorem loadA_twins (h : Twin Q s u) (a : Nat) : (loadA a s).Twins Q (loadA a u) :=
  (readByte_twins h a).andThen fun _ _ _ h1 => .done _ (h1.put8 _ _)

theorem storeA_twins (h : Twin Q s u) (a : Nat) : (storeA a s).Twins Q (storeA a u) := by
  obtain ⟨y, rfl, hy⟩ := id h
  exact writeByte_twins h a s.a

/-- R184 to R186: a pointer moves alike in twins. -/
theorem movePointer_twins (h : Twin Q s u) (p : Reg16) (f : Word → Word) :
    (Effect.done () (s.set16 p (f (s.get16 p)))).Twins Q (.done () (u.set16 p (f (u.get16 p)))) := by
  obtain ⟨y, rfl, hy⟩ := id h
  exact .done () (h.set16 p (f (s.get16 p)))

theorem loadAbs8_twins (h : Twin Q s u) (r : Reg8) (a : Word) : (loadAbs8 r a s).Twins Q (loadAbs8 r a u) :=
  (readByte_twins h _).andThen fun _ _ _ h1 => .done _ (h1.put8 _ _)

theorem loadAbs16_twins (h : Twin Q s u) (q : Reg16) (a : Word) : (loadAbs16 q a s).Twins Q (loadAbs16 q a u) :=
  (readWord_twins h _).andThen fun _ _ _ h1 => .done _ (h1.put16 _ _)

theorem popReg8_twins (h : Twin Q s u) (r : Reg8) : (popReg8 r s).Twins Q (popReg8 r u) :=
  (pop8_twins h).andThen fun _ _ _ h1 => .done _ (h1.put8 _ _)

theorem popReg16_twins (h : Twin Q s u) (q : Reg16) : (popReg16 q s).Twins Q (popReg16 q u) :=
  (pop16_twins h).andThen fun _ _ _ h1 => .done _ (h1.put16 _ _)

/-- A jump that twins take alike, to the same address (43_jumps_calls.md R140, R149). -/
theorem jump_twins (h : Twin Q s u) (taken : Bool) (a : Word) :
    (Effect.done () (if taken then s.set16 .pc a else s)).Twins Q
      (.done () (if taken then u.set16 .pc a else u)) := by
  cases taken with
  | true => exact .done () (h.set16 _ _)
  | false => exact .done () h

theorem callAbs_twins (h : Twin Q s u) (a : Word) : (callAbs a s).Twins Q (callAbs a u) := by
  obtain ⟨y, rfl, hy⟩ := id h
  exact (push16_twins h s.pc).andThen fun _ _ _ h1 => .done _ (h1.set16 _ _)

theorem returnFromCall_twins (h : Twin Q s u) : (returnFromCall s).Twins Q (returnFromCall u) :=
  (pop16_twins h).andThen fun _ _ _ h1 => .done _ (h1.set16 _ _)

/-! ### The instruction and the step -/

/-- Every instruction takes twins to twins, SYS where its handler does. -/
theorem exec_twins (hQ : Unread.Carried Q) (h : Twin Q s u) (i : Instr)
    (hsys : ∀ n, i = .sys n → NextTwins Q (execSys n s) (execSys n u)) : NextTwins Q (exec i s) (exec i u) := by
  obtain ⟨y, rfl, hy⟩ := id h
  cases i with
  | nop => exact finish_twins hQ (.done () h)
  | halt => exact finish_twins hQ (.done () h.halt)
  | sys n => exact hsys n rfl
  | ldaImm | ldbImm | ldcImm | lddImm | ldeImm | ldfImm => exact finish_twins hQ (.done () (h.put8 _ _))
  | lddaImm | lddbImm | ldixImm | ldiyImm
  | movDaDb | movDbDa | movDaIdx | movDaIdy | movDbIdx | movDbIdy
  | movIdxDa | movIdyDa | movIdxDb | movIdyDb | movIdxIdy | movIdyIdx =>
    exact finish_twins hQ (.done () (h.put16 _ _))
  | ldaAbs | ldbAbs | ldcAbs | lddAbs | ldeAbs | ldfAbs => exact finish_twins hQ (loadAbs8_twins h _ _)
  | lddaAbs | lddbAbs | ldixAbs | ldiyAbs => exact finish_twins hQ (loadAbs16_twins h _ _)
  | staAbs | stbAbs | stcAbs | stdAbs | steAbs | stfAbs => exact finish_twins hQ (writeByte_twins h _ _)
  | stdaAbs | stdbAbs => exact finish_twins hQ (writeWord_twins h _ _)
  | incA | incB | incC | incD | incE | incF | decA | decB | decC | decD | decE | decF
  | notA | notB | notC | notD | notE | notF | shlA | shlB | shlC | shlD | shlE | shlF
  | shrA | shrB | shrC | shrD | shrE | shrF => exact finish_twins hQ (alu8_twins hQ h _ _ _ _ _)
  | incDa | incDb | decDa | decDb | addDaDb | addDbDa | subDaDb | subDbDa =>
    exact finish_twins hQ (alu16_twins hQ h _ _ _ _ _)
  | cmpAImm | cmpBImm | cmpCImm | cmpDImm | cmpEImm | cmpFImm | cmpDaImm | cmpDbImm | cmpDaDb | cmpDbDa =>
    exact finish_twins hQ (compare_twins hQ h _ _)
  | addReg | subReg | andReg | orReg | xorReg =>
    exact finish_twins hQ (withPair_twins h _ _ fun _ _ => alu8_twins hQ h _ _ _ _ _)
  | cmpReg => exact finish_twins hQ (withPair_twins h _ _ fun _ _ => compare_twins hQ h _ _)
  | movReg => exact finish_twins hQ (withPair_twins h _ _ fun _ _ => .done () (h.put8 _ _))
  | swapReg => exact finish_twins hQ (withPair_twins h _ _ fun _ _ => .done () ((h.set8 _ _).set8 _ _))
  | swapDaDb | swapIdxIdy => exact finish_twins hQ (.done () ((h.set16 _ _).set16 _ _))
  | pushA | pushB | pushC | pushD | pushE | pushF => exact finish_twins hQ (push8_twins h _)
  | pushDa | pushDb => exact finish_twins hQ (push16_twins h _)
  | popA | popB | popC | popD | popE | popF => exact finish_twins hQ (popReg8_twins h _)
  | popDa | popDb => exact finish_twins hQ (popReg16_twins h _)
  | jmp | jz | jnz | jc | jnc | jn | jnn | jr | jrz | jrnz | jrc => exact finish_twins hQ (jump_twins h _ _)
  | call a => exact finish_twins hQ (callAbs_twins h a)
  | ret => exact finish_twins hQ (returnFromCall_twins h)
  | incIdx | incIdy => exact finish_twins hQ (movePointer_twins h _ (· + 1#16))
  | decIdx | decIdy => exact finish_twins hQ (movePointer_twins h _ (· - 1#16))
  | addIdxImm n | addIdyImm n => exact finish_twins hQ (movePointer_twins h _ (· + zext16 n))
  | ldaIdx | ldaIdy | ldaIdxDisp | ldaIdyDisp => exact finish_twins hQ (loadA_twins h _)
  | staIdx | staIdy | staIdxDisp | staIdyDisp => exact finish_twins hQ (storeA_twins h _)
  | ldaIdxInc | ldaIdyInc =>
    exact finish_twins hQ (.andThen (loadA_twins h _) fun _ _ _ h1 => movePointer_twins h1 _ (· + 1#16))
  | ldaIdxDec | ldaIdyDec =>
    exact finish_twins hQ (.andThen (loadA_twins h _) fun _ _ _ h1 => movePointer_twins h1 _ (· - 1#16))
  | staIdxInc | staIdyInc =>
    exact finish_twins hQ (.andThen (storeA_twins h _) fun _ _ _ h1 => movePointer_twins h1 _ (· + 1#16))
  | staIdxDec | staIdyDec =>
    exact finish_twins hQ (.andThen (storeA_twins h _) fun _ _ _ h1 => movePointer_twins h1 _ (· - 1#16))

/-- A step takes twins to twins, where the SYS it may run does (40_control.md R90, R95). -/
theorem step_twins (hQ : Unread.Carried Q) (h : Twin Q s u)
    (hsys : ∀ n t v, fetchInstr s = .done (.sys n) t → Twin Q t v → NextTwins Q (execSys n t) (execSys n v)) :
    NextTwins Q (step s) (step u) := by
  obtain ⟨y, rfl, hy⟩ := id h
  unfold step
  rw [State.withUnread_running]
  split
  · generalize hf : fetchInstr s = r, hf' : fetchInstr (s.withUnread y) = r'
    have hfetch := fetchInstr_twins h
    rw [hf, hf'] at hfetch
    cases hfetch with
    | done i h1 => exact exec_twins hQ h1 i fun n hi => hsys n _ _ (hi ▸ hf) h1
    | raise k h1 => exact .next (h1.takeFault k)
  · exact .next h

end

/-! ### Overflow -/

/-- Two unread parts with the same mode and counters. -/
def Unread.SameButOverflow (x y : Unread) : Prop := ∃ o, y = { x with overflow := o }

theorem Unread.sameButOverflow_carried : Unread.Carried Unread.SameButOverflow where
  draw := by
    rintro x _ ⟨_, rfl⟩ o
    exact ⟨o, rfl⟩
  count := by
    rintro x _ ⟨o, rfl⟩
    exact ⟨o, rfl⟩

theorem twin_withOverflow (s : State) (o : Bool) :
    Twin Unread.SameButOverflow s { s with flags := { s.flags with o := o } } :=
  ⟨{ s.unread with overflow := o }, rfl, o, rfl⟩

theorem Twin.sameBut_flagO {s u : State} (h : Twin Unread.SameButOverflow s u) : State.sameBut [.flagO] s u := by
  obtain ⟨_, rfl, o, rfl⟩ := h
  intro l hl
  cases l with
  | reg8 r => cases r <;> rfl
  | reg16 p => cases p <;> rfl
  | flagO => exact absurd (List.mem_singleton_self _) hl
  | _ => rfl

/-- Settles O16: the two states are twins, and so are those their steps lead to. A SYS is refused, because the step runs
no handler. -/
theorem overflowIsNeverRead : Obligations.OverflowIsNeverRead := by
  intro s t o hnohandler hstep
  have htwins := step_twins Unread.sameButOverflow_carried (twin_withOverflow s o) fun n t v hf _ t' ht' => by
    have hnone : t.sysHandler = none := by
      rw [fetchInstr_done hf]
      exact Decidable.of_not_not fun hs => hnohandler ⟨hs, n, t, hf⟩
    rw [execSys_none hnone] at ht'
    cases ht'
  obtain ⟨u, hu, htu⟩ := htwins t hstep
  exact ⟨u, hu, htu.sameBut_flagO⟩

end Sys2Proof.Machine
end

section
/-!
Words and programs in memory (O18, O23).

An update that writes memory alone is known by what its bytes read: `State.sameBut_setMem` and `State.agreeAt_setMem`
say that everything else is as before.
-/

namespace Sys2Proof.Machine

/-! ### Updates of memory alone -/

theorem State.agreeAt_setMem (s : State) (m : Memory) {l : Loc} (hl : ∀ a, l ≠ .byte a) :
    s.agreeAt { s with mem := m } l := by
  cases l with
  | byte a => exact absurd rfl (hl a)
  | reg8 r => exact State.get8_mem r m s
  | reg16 p => exact State.get16_mem p m s
  | _ => rfl

/-- The frame of a memory update is the frame of its bytes. -/
theorem State.sameBut_setMem {changed : List Loc} {s : State} {m : Memory}
    (h : ∀ b, .byte b ∉ changed → Memory.read m b = Memory.read s.mem b) :
    State.sameBut changed s { s with mem := m } := by
  intro l hl
  cases l with
  | byte b => exact h b hl
  | _ => exact s.agreeAt_setMem m nofun

/-! ### Words -/

/-- The memory a word write leaves: the low octet at the lower address (20_memory.md R55). -/
def Memory.writeOctets (m : Memory) (a : Nat) (v : Word) : Memory :=
  Memory.write (Memory.write m a (lowByte v)) (a + 1) (highByte v)

@[simp] theorem Memory.read_writeOctets_low (m : Memory) (a : Nat) (v : Word) :
    Memory.read (m.writeOctets a v) a = lowByte v := by
  rw [Memory.writeOctets, Memory.read_write_other _ _ a.lt_succ_self.ne, Memory.read_write_same]

@[simp] theorem Memory.read_writeOctets_high (m : Memory) (a : Nat) (v : Word) :
    Memory.read (m.writeOctets a v) (a + 1) = highByte v := Memory.read_write_same _ _ _

theorem Memory.read_writeOctets_other (m : Memory) {a b : Nat} (v : Word) (hlow : b ≠ a) (hhigh : b ≠ a + 1) :
    Memory.read (m.writeOctets a v) b = Memory.read m b := by
  rw [Memory.writeOctets, Memory.read_write_other _ _ hhigh, Memory.read_write_other _ _ hlow]

theorem writeWord_writeOctets {a : Nat} {s : State} (v : Word) (h : a + 1 < s.config.memSize) :
    writeWord a v s = .done () { s with mem := s.mem.writeOctets a v } := writeWord_in v h

/-- 20_memory.md R54: a word read inside memory joins the octets a word write left there. -/
theorem readWord_writeOctets {a : Nat} {v : Word} {m : Memory} {s : State} (hm : s.mem = m.writeOctets a v)
    (h : a + 1 < s.config.memSize) : readWord a s = .done v s := by
  rw [readWord_in h, hm, Memory.read_writeOctets_high, Memory.read_writeOctets_low, concat_highByte_lowByte]

/-- Settles O18: the two octets read back, and the word read joins them again. -/
theorem wordRoundTrip : Obligations.WordRoundTrip := by
  intro a v s h
  refine ⟨_, writeWord_writeOctets v h, readWord_writeOctets rfl h, ?_, ?_, State.sameBut_setMem fun b hb => ?_⟩
  · rw [Memory.read_writeOctets_low, lowByte_toNat]
  · rw [Memory.read_writeOctets_high, highByte_toNat]
  · obtain ⟨hlow, hhigh⟩ : b ≠ a ∧ b ≠ a + 1 := by simpa using hb
    exact Memory.read_writeOctets_other s.mem v hlow hhigh

/-! ### Programs -/

/-- Writing bytes at rising addresses leaves every byte outside their range. -/
theorem Memory.read_writeBytes_outside (m : Memory) {a b : Nat} (vs : List Byte) (h : b < a ∨ a + vs.length ≤ b) :
    Memory.read (Memory.writeBytes m a vs) b = Memory.read m b := by
  induction vs generalizing m a with
  | nil => rfl
  | cons v vs ih =>
    rw [List.length_cons] at h
    rw [Memory.writeBytes, ih _ (by omega), Memory.read_write_other _ _ (by omega)]

/-- The i-th byte written is at the i-th address: no later byte goes there. -/
theorem Memory.read_writeBytes_inside (m : Memory) (a : Nat) {vs : List Byte} {i : Nat} {v : Byte}
    (h : vs[i]? = some v) : Memory.read (Memory.writeBytes m a vs) (a + i) = v := by
  induction vs generalizing m a i with
  | nil => cases h
  | cons w vs ih =>
    rw [Memory.writeBytes]
    cases i with
    | zero =>
      rw [Memory.read_writeBytes_outside _ _ (.inl (by omega)), Nat.add_zero, Memory.read_write_same]
      exact Option.some.inj h
    | succ i =>
      rw [Nat.add_comm i, ← Nat.add_assoc]
      exact ih _ _ h

theorem loadProgram_tooLarge {bytes : List Byte} {origin : Nat} {s : State}
    (h : s.config.memSize < origin + bytes.length) : loadProgram bytes s origin = .error .programTooLarge := if_pos h

theorem loadProgram_fits {bytes : List Byte} {origin : Nat} {s : State}
    (h : origin + bytes.length ≤ s.config.memSize) :
    loadProgram bytes s origin = .ok { s with mem := Memory.writeBytes s.mem origin bytes } := if_neg (Nat.not_lt.mpr h)

/-- Settles O23: what each operation does to the bytes, and that it writes memory alone. -/
theorem loadProgramAndClear : Obligations.LoadProgramAndClear := by
  intro bytes origin s
  refine ⟨loadProgram_tooLarge, fun hfits => ⟨_, loadProgram_fits hfits, ?_, ?_, ?_⟩, rfl, ?_, ?_⟩
  · exact fun i v hi => Memory.read_writeBytes_inside s.mem origin hi
  · exact fun a ha => Memory.read_writeBytes_outside s.mem bytes ha
  · exact fun l hl => s.agreeAt_setMem _ hl
  · exact Memory.read_filled 0x00#8
  · exact fun l hl => s.agreeAt_setMem _ hl

end Sys2Proof.Machine
end

section
/-!
The next fetch sees what an instruction stored (O21).

A fetch reads the byte array of the state it is made in, so what it needs of the instruction before it is that the array
still has its size: no instruction writes the parameters (`exec_keepsConfig`, 00_scope.md R7).
-/

namespace Sys2Proof.Machine

/-! ### No instruction writes the parameters -/

/-- The state an effect ends in has the parameters of `s`. -/
def Effect.KeepsConfig {α : Type} (s : State) : Effect α → Prop
  | .done _ t => t.config = s.config
  | .raise _ t => t.config = s.config

theorem Effect.KeepsConfig.andThen {α β : Type} {s : State} {r : Effect α} {k : α → State → Effect β}
    (h : r.KeepsConfig s) (hk : ∀ v t, (k v t).KeepsConfig t) : (r.andThen k).KeepsConfig s := by
  cases r with
  | raise f t => exact h
  | done v t =>
    have hkt := hk v t
    rw [Effect.andThen_done]
    cases hr : k v t with
    | done w u | raise f u =>
      rw [hr] at hkt
      exact hkt.trans h

/-- Where an outcome is a next state, it has the parameters of `s`. -/
def NextKeepsConfig (s : State) (o : Host.Outcome State Fault Refusal) : Prop :=
  ∀ t, o = .next t → t.config = s.config

section
variable {s : State}

theorem NextKeepsConfig.next {t : State} (h : t.config = s.config) : NextKeepsConfig s (.next t) := fun _ ht => by
  cases ht
  exact h

theorem NextKeepsConfig.refused (r : Refusal) : NextKeepsConfig s (.refused r) := fun _ ht => nomatch ht

theorem finish_keepsConfig {r : Effect Unit} (h : r.KeepsConfig s) : NextKeepsConfig s (finish r) := by
  cases r with
  | done _ t => exact .next h
  | raise k t => exact .next h

theorem readByte_keepsConfig (a : Nat) : (readByte a s).KeepsConfig s := by
  rcases Nat.lt_or_ge a s.config.memSize with hin | hout
  · rw [readByte_in hin]
    rfl
  · rw [readByte_out hout]
    rfl

theorem writeByte_keepsConfig (a : Nat) (v : Byte) : (writeByte a v s).KeepsConfig s := by
  rcases Nat.lt_or_ge a s.config.memSize with hin | hout
  · rw [writeByte_in v hin]
    rfl
  · rw [writeByte_out v hout]
    rfl

theorem readWord_keepsConfig (a : Nat) : (readWord a s).KeepsConfig s :=
  (readByte_keepsConfig a).andThen fun _ _ => (readByte_keepsConfig (a + 1)).andThen fun _ _ => rfl

theorem writeWord_keepsConfig (a : Nat) (v : Word) : (writeWord a v s).KeepsConfig s := by
  rcases Nat.lt_or_ge a s.config.memSize with hin | hout
  · rcases Nat.lt_or_ge (a + 1) s.config.memSize with hin1 | hout1
    · rw [writeWord_in v hin1]
      rfl
    · rw [writeWord_edge v hin hout1]
      rfl
  · rw [writeWord_out v hout]
    rfl

theorem push8_keepsConfig (v : Byte) : (push8 v s).KeepsConfig s := (writeByte_keepsConfig _ v).andThen fun _ _ => rfl

theorem pop8_keepsConfig : (pop8 s).KeepsConfig s := readByte_keepsConfig (s := s.set16 .sp (s.sp + 1#16)) _

theorem push16_keepsConfig (v : Word) : (push16 v s).KeepsConfig s :=
  (push8_keepsConfig _).andThen fun _ _ => push8_keepsConfig _

theorem pop16_keepsConfig : (pop16 s).KeepsConfig s :=
  pop8_keepsConfig.andThen fun _ _ => pop8_keepsConfig.andThen fun _ _ => rfl

theorem withPair_keepsConfig (dst src : RegCode) {k : Reg8 → Reg8 → State → Effect Unit}
    (hk : ∀ x y, (k x y s).KeepsConfig s) : (withPair dst src k s).KeepsConfig s := by
  cases hd : reg8OfCode dst with
  | none =>
    rw [withPair_dst k s (reg8OfCode_eq_none.mp hd)]
    rfl
  | some x =>
    cases hs : reg8OfCode src with
    | none =>
      rw [withPair_src k s hd (reg8OfCode_eq_none.mp hs)]
      rfl
    | some y =>
      rw [withPair_valid k s hd hs]
      exact hk x y

theorem loadA_keepsConfig (a : Nat) : (loadA a s).KeepsConfig s := (readByte_keepsConfig a).andThen fun _ _ => rfl

theorem loadAbs8_keepsConfig (r : Reg8) (a : Word) : (loadAbs8 r a s).KeepsConfig s :=
  (readByte_keepsConfig _).andThen fun _ _ => rfl

theorem loadAbs16_keepsConfig (q : Reg16) (a : Word) : (loadAbs16 q a s).KeepsConfig s :=
  (readWord_keepsConfig _).andThen fun _ _ => State.put16_config _ _ _

theorem popReg16_keepsConfig (q : Reg16) : (popReg16 q s).KeepsConfig s :=
  pop16_keepsConfig.andThen fun _ _ => State.put16_config _ _ _

/-- A jump writes pc or nothing (43_jumps_calls.md R140, R149). -/
theorem jump_keepsConfig (taken : Bool) (a : Word) :
    (Effect.done () (if taken then s.set16 .pc a else s)).KeepsConfig s := by
  cases taken <;> rfl

/-- A SYS_HANDLER does not reach the parameters (40_control.md R94). -/
theorem execSys_keepsConfig (n : Byte) : NextKeepsConfig s (execSys n s) := by
  cases hs : s.sysHandler with
  | none =>
    rw [execSys_none hs]
    exact .refused _
  | some hd =>
    rw [execSys_some hs]
    cases hr : hd.reply n s.arch with
    | completes u =>
      rw [sysWith_completes _ hr]
      exact .next rfl
    | raises k u =>
      rw [sysWith_raises _ hr]
      exact .next rfl
    | refuses =>
      rw [sysWith_refuses _ hr]
      exact .refused _

/-- No instruction writes the parameters (00_scope.md R7): those that cannot fault write registers, flags and the run
flag alone, and the others add an access of memory or the check of a register-pair byte. -/
theorem exec_keepsConfig (i : Instr) : NextKeepsConfig s (exec i s) := by
  cases i with
  | nop | halt
  | ldaImm | ldbImm | ldcImm | lddImm | ldeImm | ldfImm | lddaImm | lddbImm | ldixImm | ldiyImm
  | movDaDb | movDbDa | movDaIdx | movDaIdy | movDbIdx | movDbIdy
  | movIdxDa | movIdyDa | movIdxDb | movIdyDb | movIdxIdy | movIdyIdx | swapDaDb | swapIdxIdy
  | incA | incB | incC | incD | incE | incF | decA | decB | decC | decD | decE | decF
  | notA | notB | notC | notD | notE | notF | shlA | shlB | shlC | shlD | shlE | shlF
  | shrA | shrB | shrC | shrD | shrE | shrF
  | incDa | incDb | decDa | decDb | addDaDb | addDbDa | subDaDb | subDbDa
  | cmpAImm | cmpBImm | cmpCImm | cmpDImm | cmpEImm | cmpFImm | cmpDaImm | cmpDbImm | cmpDaDb | cmpDbDa
  | incIdx | incIdy | decIdx | decIdy | addIdxImm | addIdyImm => exact .next rfl
  | sys n => exact execSys_keepsConfig n
  | addReg | subReg | cmpReg | andReg | orReg | xorReg | movReg | swapReg =>
    exact finish_keepsConfig (withPair_keepsConfig _ _ fun _ _ => rfl)
  | jmp | jz | jnz | jc | jnc | jn | jnn | jr | jrz | jrnz | jrc => exact finish_keepsConfig (jump_keepsConfig _ _)
  | call => exact finish_keepsConfig ((push16_keepsConfig _).andThen fun _ _ => rfl)
  | ret => exact finish_keepsConfig (pop16_keepsConfig.andThen fun _ _ => rfl)
  | pushA | pushB | pushC | pushD | pushE | pushF => exact finish_keepsConfig (push8_keepsConfig _)
  | pushDa | pushDb => exact finish_keepsConfig (push16_keepsConfig _)
  | popA | popB | popC | popD | popE | popF => exact finish_keepsConfig (pop8_keepsConfig.andThen fun _ _ => rfl)
  | popDa | popDb => exact finish_keepsConfig (popReg16_keepsConfig _)
  | ldaAbs | ldbAbs | ldcAbs | lddAbs | ldeAbs | ldfAbs => exact finish_keepsConfig (loadAbs8_keepsConfig _ _)
  | lddaAbs | lddbAbs | ldixAbs | ldiyAbs => exact finish_keepsConfig (loadAbs16_keepsConfig _ _)
  | staAbs | stbAbs | stcAbs | stdAbs | steAbs | stfAbs | staIdx | staIdy | staIdxDisp | staIdyDisp =>
    exact finish_keepsConfig (writeByte_keepsConfig _ _)
  | stdaAbs | stdbAbs => exact finish_keepsConfig (writeWord_keepsConfig _ _)
  | ldaIdx | ldaIdy | ldaIdxDisp | ldaIdyDisp => exact finish_keepsConfig (loadA_keepsConfig _)
  | ldaIdxInc | ldaIdyInc | ldaIdxDec | ldaIdyDec =>
    exact finish_keepsConfig ((loadA_keepsConfig _).andThen fun _ _ => rfl)
  | staIdxInc | staIdyInc | staIdxDec | staIdyDec =>
    exact finish_keepsConfig ((writeByte_keepsConfig _ _).andThen fun _ _ => rfl)

/-! ### A fetch at a given address -/

theorem fetch8_at {a : Word} (h : a.toNat < s.config.memSize) :
    fetch8 (s.set16 .pc a) = .done (Memory.read s.mem a.toNat) (s.set16 .pc (a + 1#16)) :=
  fetch8_in (s := s.set16 .pc a) h

/-- 00_scope.md R13: the low octet, then the high octet. -/
theorem fetch16_at {a : Word} (h : a.toNat < s.config.memSize) (h1 : (a + 1#16).toNat < s.config.memSize) :
    fetch16 (s.set16 .pc a) =
      .done (concat (Memory.read s.mem (a + 1#16).toNat) (Memory.read s.mem a.toNat)) (s.set16 .pc (a + 2#16)) := by
  rw [fetch16, fetch8_at h, Effect.andThen_done, fetch8_at h1, Effect.andThen_done, BitVec.add_assoc]
  rfl

/-- The fetch after an instruction reads the memory the instruction left (20_memory.md R68). -/
theorem fetch8_after_exec {i : Instr} {t : State} {a : Word} (hexec : exec i s = .next t)
    (ha : a.toNat < s.config.memSize) :
    fetch8 (t.set16 .pc a) = .done (Memory.read t.mem a.toNat) (t.set16 .pc (a + 1#16)) := by
  have hconfig : t.config = s.config := exec_keepsConfig i t hexec
  exact fetch8_at (hconfig ▸ ha)

/-! ### What the stores leave -/

/-- An outcome is a next state whose memory has the byte `v` at `a`. -/
def NextHolds (a : Nat) (v : Byte) (o : Host.Outcome State Fault Refusal) : Prop :=
  ∃ t, o = .next t ∧ Memory.read t.mem a = v

theorem finish_writeByte_holds {a : Nat} (v : Byte) (h : a < s.config.memSize) :
    NextHolds a v (finish (writeByte a v s)) := by
  rw [writeByte_in v h]
  exact ⟨_, rfl, Memory.read_write_same _ _ _⟩

/-- The same with a pointer or SP moved after the write (45_indexed.md R181, R183, 44_stores_stack.md R164). -/
theorem finish_writeByte_set16_holds {a : Nat} (v : Byte) (p : Reg16) (f : State → Word) (h : a < s.config.memSize) :
    NextHolds a v (finish ((writeByte a v s).andThen fun _ t => .done () (t.set16 p (f t)))) := by
  rw [writeByte_in v h]
  exact ⟨_, rfl, Memory.read_write_same _ _ _⟩

theorem storeAbs8_holds (r : Reg8) (a : Word) (h : a.toNat < s.config.memSize) :
    NextHolds a.toNat (s.get8 r) (finish (storeAbs8 r a s)) := finish_writeByte_holds _ h

theorem storeIndirect_holds (p : Reg16) (h : (s.get16 p).toNat < s.config.memSize) :
    NextHolds (s.get16 p).toNat s.a (finish (storeIndirect p s)) := finish_writeByte_holds _ h

theorem storePostInc_holds (p : Reg16) (h : (s.get16 p).toNat < s.config.memSize) :
    NextHolds (s.get16 p).toNat s.a (finish (storePostInc p s)) :=
  finish_writeByte_set16_holds _ p (fun t => t.get16 p + 1#16) h

theorem storePostDec_holds (p : Reg16) (h : (s.get16 p).toNat < s.config.memSize) :
    NextHolds (s.get16 p).toNat s.a (finish (storePostDec p s)) :=
  finish_writeByte_set16_holds _ p (fun t => t.get16 p - 1#16) h

theorem pushReg8_holds (r : Reg8) (h : s.sp.toNat < s.config.memSize) :
    NextHolds s.sp.toNat (s.get8 r) (finish (pushReg8 r s)) :=
  finish_writeByte_set16_holds _ .sp (fun t => t.sp - 1#16) h

/-- A displaced effective address is a word (45_indexed.md R175). -/
theorem ofNat_displacedAddr (p : Reg16) (d : Byte) (s : State) :
    (BitVec.ofNat 16 (displacedAddr p d s)).toNat = displacedAddr p d s := Nat.mod_eq_of_lt (BitVec.isLt _)

theorem storeDisplaced_holds (p : Reg16) (d : Byte)
    (h : (BitVec.ofNat 16 (displacedAddr p d s)).toNat < s.config.memSize) :
    NextHolds (BitVec.ofNat 16 (displacedAddr p d s)).toNat s.a (finish (storeDisplaced p d s)) := by
  rw [ofNat_displacedAddr] at h ⊢
  exact finish_writeByte_holds _ h

/-- Each byte store leaves its register's byte at its address: one proof for each entry of the list. -/
theorem byteStores_hold (a : Word) (d : Byte) (s : State) :
    ∀ store ∈ byteStores a d s, store.2.2.toNat < s.config.memSize →
      NextHolds store.2.2.toNat (s.get8 store.2.1) (exec store.1 s) := by
  simp only [byteStores, List.forall_mem_cons, List.not_mem_nil, false_imp_iff, implies_true, and_true]
  exact ⟨storeAbs8_holds .a a, storeAbs8_holds .b a, storeAbs8_holds .c a, storeAbs8_holds .d a, storeAbs8_holds .e a,
    storeAbs8_holds .f a, storeIndirect_holds .idx, storeIndirect_holds .idy, storePostInc_holds .idx,
    storePostInc_holds .idy, storePostDec_holds .idx, storePostDec_holds .idy, storeDisplaced_holds .idx d,
    storeDisplaced_holds .idy d, pushReg8_holds .a, pushReg8_holds .b, pushReg8_holds .c, pushReg8_holds .d,
    pushReg8_holds .e, pushReg8_holds .f⟩

/-- The fetch of a word gives the one that was written at its address; a + 1 does not wrap inside memory. -/
theorem fetch16_writeOctets {a v : Word} {m : Memory} (hwf : s.config.wf = true)
    (hm : s.mem = m.writeOctets a.toNat v) (ha : a.toNat + 1 < s.config.memSize) :
    fetch16 (s.set16 .pc a) = .done v (s.set16 .pc (a + 2#16)) := by
  have hnext : (a + 1#16).toNat = a.toNat + 1 := by
    obtain ⟨_, hmax⟩ := memSize_range_of_wf hwf
    bv_omega
  rw [fetch16_at (Nat.lt_of_succ_lt ha) (hnext ▸ ha), hnext, hm, Memory.read_writeOctets_high,
    Memory.read_writeOctets_low, concat_highByte_lowByte]

theorem storeAbs16_fetched (q : Reg16) {a : Word} (hwf : s.config.wf = true) (ha : a.toNat + 1 < s.config.memSize) :
    ∃ t, finish (storeAbs16 q a s) = .next t ∧
      fetch16 (t.set16 .pc a) = .done (s.get16 q) (t.set16 .pc (a + 2#16)) := by
  rw [storeAbs16, writeWord_writeOctets _ ha, finish_done]
  exact ⟨_, rfl, fetch16_writeOctets hwf rfl ha⟩

end

/-- Settles O21: the fetch reads what the instruction left, and the stores leave their register's octets. -/
theorem storeIsSeenByTheNextFetch : Obligations.StoreIsSeenByTheNextFetch := by
  intro s a d
  refine ⟨fun i t hexec ha => fetch8_after_exec hexec ha, fun i r x hi hx => ?_, fun hwf ha =>
    ⟨storeAbs16_fetched .da hwf ha, storeAbs16_fetched .db hwf ha⟩⟩
  obtain ⟨t, hexec, hread⟩ := byteStores_hold a d s _ hi hx
  exact ⟨t, hexec, hread ▸ fetch8_after_exec hexec hx⟩

end Sys2Proof.Machine
end

section
/-!
Decoding and encoding undo each other (O1, O2, O3).

`OpcodeRow.Reads` says, without the decoder and without `encode`, which instruction a row of the opcode map makes of
which operand octets. The decoder reads exactly by that relation under every OPCODE_MAP (`decodeBy_eq_ok_iff`), and
`encode` writes exactly by it (`encode_reads`, `encode_of_reads`); both round trips follow.
-/

namespace Sys2Proof

/-! ### What a row of the opcode map makes of operand octets -/

/-- The row, completed by the operand octets, is the instruction: no octet, one octet, a register-pair byte, or a word
with its low octet first (30_encoding.md R71, R73, R74). -/
inductive OpcodeRow.Reads : OpcodeRow → List Byte → Instr → Prop where
  | f0 (i : Instr) : Reads (.f0 i) [] i
  | f1 (mk : Byte → Instr) (n : Byte) : Reads (.f1 mk) [n] (mk n)
  | f2 (mk : RegCode → RegCode → Instr) (dst src : RegCode) : Reads (.f2 mk) [pairByte dst src] (mk dst src)
  | f3 (mk : Word → Instr) (v : Word) : Reads (.f3 mk) [lowByte v, highByte v] (mk v)

/-- Every octet is a register-pair byte, whether or not its fields name registers. -/
theorem OpcodeRow.Reads.f2_octet (mk : RegCode → RegCode → Instr) (rr : Byte) :
    Reads (.f2 mk) [rr] (mk (pairDst rr) (pairSrc rr)) := by
  simpa using Reads.f2 mk (pairDst rr) (pairSrc rr)

/-- Every two octets are a word, low octet first. -/
theorem OpcodeRow.Reads.f3_octets (mk : Word → Instr) (lo hi : Byte) :
    Reads (.f3 mk) [lo, hi] (mk (concat hi lo)) := by
  simpa using Reads.f3 mk (concat hi lo)

/-! ### The decoder reads by the row of the first octet -/

section
variable {map : Option OpcodeNumbering} {op : Byte} {operands octets rest : List Byte} {row : OpcodeRow} {i : Instr}

theorem decodeBy_of_reads (rest : List Byte) (hrow : rowOf map op = some row) (hi : row.Reads operands i) :
    decodeBy map (op :: operands ++ rest) = .ok (i, rest) := by
  cases hi with
  | f0 i => exact decodeBy_f0 rest hrow
  | f1 mk n => exact decodeBy_f1 n rest hrow
  | f2 mk dst src => exact decodeBy_f2 dst src rest hrow
  | f3 mk v => exact decodeBy_f3 v rest hrow

/-- The row of an opcode that the decoder accepts, and the operand octets it consumed. -/
theorem reads_of_decodeBy (h : decodeBy map octets = .ok (i, rest)) :
    ∃ op operands row, octets = op :: operands ++ rest ∧ rowOf map op = some row ∧ row.Reads operands i := by
  cases octets with
  | nil => cases h
  | cons op tail =>
    cases hrow : rowOf map op with
    | none => cases (decodeBy_unassigned tail hrow).symm.trans h
    | some row =>
      refine ⟨op, ?_⟩
      simp only [decodeBy, hrow] at h
      cases row with
      | f0 j =>
        cases h
        exact ⟨[], _, rfl, hrow, .f0 i⟩
      | f1 mk =>
        match tail, h with
        | n :: _, rfl => exact ⟨[n], _, rfl, hrow, .f1 mk n⟩
      | f2 mk =>
        match tail, h with
        | rr :: _, rfl => exact ⟨[rr], _, rfl, hrow, .f2_octet mk rr⟩
      | f3 mk =>
        match tail, h with
        | lo :: hi :: _, rfl => exact ⟨[lo, hi], _, rfl, hrow, .f3_octets mk lo hi⟩

/-- What the decoder accepts, under any OPCODE_MAP (30_encoding.md R70, R81). -/
theorem decodeBy_eq_ok_iff : decodeBy map octets = .ok (i, rest) ↔
    ∃ op operands row, octets = op :: operands ++ rest ∧ rowOf map op = some row ∧ row.Reads operands i := by
  refine ⟨reads_of_decodeBy, ?_⟩
  rintro ⟨op, operands, row, rfl, hrow, hi⟩
  exact decodeBy_of_reads rest hrow hi

end

/-! ### `encode` writes by the same rows -/

/-- Every instruction is in the opcode map: the octets `encode` gives it are an opcode and what that opcode's row reads
as the instruction (30_encoding.md R77). -/
theorem encode_reads (i : Instr) :
    ∃ op operands row, encode i = op :: operands ∧ opcodeMap op = some row ∧ row.Reads operands i := by
  cases i with
  | nop | halt | incA | incB | incC | incD | incE | incF | incDa | incDb | decA | decB | decC | decD | decE
  | decF | decDa | decDb | notA | notB | notC | notD | notE | notF | shlA | shlB | shlC | shlD | shlE | shlF
  | shrA | shrB | shrC | shrD | shrE | shrF | pushA | pushB | pushC | pushD | pushE | pushF | pushDa | pushDb
  | popA | popB | popC | popD | popE | popF | popDa | popDb | addDaDb | addDbDa | subDaDb | subDbDa | cmpDaDb
  | cmpDbDa | movDaDb | movDbDa | swapDaDb | movDaIdx | movDaIdy | movDbIdx | movDbIdy | movIdxDa | movIdyDa
  | movIdxDb | movIdyDb | movIdxIdy | movIdyIdx | swapIdxIdy | ret | incIdx | incIdy | decIdx | decIdy | ldaIdx
  | ldaIdy | staIdx | staIdy | ldaIdxInc | ldaIdyInc | staIdxInc | staIdyInc | ldaIdxDec | ldaIdyDec | staIdxDec
  | staIdyDec =>
    exact ⟨_, _, _, rfl, rfl, .f0 _⟩
  | sys n | ldaImm n | ldbImm n | ldcImm n | lddImm n | ldeImm n | ldfImm n | cmpAImm n | cmpBImm n | cmpCImm n
  | cmpDImm n | cmpEImm n | cmpFImm n | jr n | jrz n | jrnz n | jrc n | addIdxImm n | addIdyImm n | ldaIdxDisp n
  | ldaIdyDisp n | staIdxDisp n | staIdyDisp n =>
    exact ⟨_, _, _, rfl, rfl, .f1 _ n⟩
  | addReg dst src | subReg dst src | cmpReg dst src | andReg dst src | orReg dst src | xorReg dst src
  | movReg dst src | swapReg dst src =>
    exact ⟨_, _, _, rfl, rfl, .f2 _ dst src⟩
  | lddaImm v | lddbImm v | ldaAbs v | ldbAbs v | ldcAbs v | lddAbs v | ldeAbs v | ldfAbs v | lddaAbs v
  | lddbAbs v | staAbs v | stbAbs v | stcAbs v | stdAbs v | steAbs v | stfAbs v | stdaAbs v | stdbAbs v
  | cmpDaImm v | cmpDbImm v | jmp v | jz v | jnz v | jc v | jnc v | jn v | jnn v | call v | ldixImm v
  | ldiyImm v | ldixAbs v | ldiyAbs v =>
    exact ⟨_, _, _, rfl, rfl, .f3 _ v⟩

/-- Every row of the opcode map is an instruction's own: what it reads is encoded with its opcode and those operand
octets (30_encoding.md R77, R80). -/
theorem encode_of_reads {op : Byte} {operands : List Byte} {row : OpcodeRow} {i : Instr}
    (hrow : opcodeMap op = some row) (hi : row.Reads operands i) : encode i = op :: operands := by
  have hop : op = BitVec.ofNat 8 op.toNat := by simp
  unfold opcodeMap at hrow
  generalize op.toNat = n at hrow hop
  subst hop
  split at hrow <;> cases hrow
  all_goals
    cases hi
    rfl

/-! ### The round trips -/

theorem decode_encode (i : Instr) (rest : List Byte) : decode (encode i ++ rest) = .ok (i, rest) := by
  obtain ⟨op, operands, row, hencode, hrow, hi⟩ := encode_reads i
  rw [hencode]
  exact decodeBy_of_reads rest hrow hi

/-- Another OPCODE_MAP changes the first octet of an encoding and no other. -/
theorem encodeBy_of_encode {map : Option OpcodeNumbering} {i : Instr} {op : Byte} {operands octets : List Byte}
    (hencode : encode i = op :: operands) (h : encodeBy map i = some octets) :
    ∃ b, byteOf map op = some b ∧ octets = b :: operands := by
  rw [encodeBy, hencode] at h
  obtain ⟨b, hb, rfl⟩ := Option.map_eq_some_iff.mp h
  exact ⟨b, hb, rfl⟩

theorem decodeBy_encodeBy {map : Option OpcodeNumbering} {i : Instr} {octets : List Byte} (rest : List Byte)
    (hmap : map.all OpcodeNumbering.wf = true) (h : encodeBy map i = some octets) :
    decodeBy map (octets ++ rest) = .ok (i, rest) := by
  obtain ⟨op, operands, row, hencode, hrow, hi⟩ := encode_reads i
  obtain ⟨b, hb, rfl⟩ := encodeBy_of_encode hencode h
  exact decodeBy_of_reads rest ((rowOf_byteOf hmap hb).trans hrow) hi

/-- Settles O2: the row that `encode` writes by is the row that the decoder reads by, under every numbering. -/
theorem decodeReadsBackEncode : Obligations.DecodeReadsBackEncode :=
  fun i rest => ⟨decode_encode i rest, fun _ _ hmap h => decodeBy_encodeBy rest hmap h⟩

/-- Settles O3: the octets the decoder consumed are an opcode and what its row reads, and `encode` writes those. -/
theorem encodeReadsBackDecode : Obligations.EncodeReadsBackDecode := by
  intro octets rest i h
  obtain ⟨op, operands, row, rfl, hrow, hi⟩ := decodeBy_eq_ok_iff.mp h
  rw [encode_of_reads hrow hi]

/-- Settles O1: each sample is the encoding of the instruction it stands for, but the last, an unassigned opcode. -/
theorem sampleWordsDecode : Obligations.SampleWordsDecode :=
  ⟨decode_encode (.ldaImm 0x32) [], decode_encode (.addReg 0 1) [], decode_encode (.movReg 2 0) [],
    decode_encode (.cmpDaImm 0x1234) [], decode_encode (.call 0x0300) [], decode_encode (.jr 0xFC) [],
    decode_encode (.ldiyAbs 0x0010) [], decode_encode .staIdyInc [], decodeBy_unassigned [] rfl⟩

end Sys2Proof
end

section
/-!
How a step begins: the fetch, and the step that runs what it gave or takes its fault (O5, O6, O7).

`fetchInstr_out`, `fetchInstr_unassigned` and `fetchInstr_assigned` say what the octet at pc decides, and
`step_of_done`, `step_of_raise` and `step_of_stopped` what the step makes of it. The frames of a completed and of a
faulted instruction follow from the frame of the state they end in (`completes_countInstruction`, `raises_takeFault`).
-/

namespace Sys2Proof.Machine

/-! ### Frames -/

theorem State.agreeAt_trans {s t u : State} {l : Loc} (h : s.agreeAt t l) (h' : t.agreeAt u l) : s.agreeAt u l := by
  cases l <;> exact Eq.trans h' h

theorem State.sameBut_refl (changed : List Loc) (s : State) : State.sameBut changed s s := by
  intro l _
  cases l <;> rfl

theorem State.sameBut_set16 (p : Reg16) (v : Word) (s : State) : State.sameBut [.reg16 p] s (s.set16 p v) := by
  intro l hl
  cases l with
  | reg8 r => exact State.get8_set16 r p v s
  | reg16 q =>
    refine State.get16_set16_other v s fun h => hl ?_
    rw [h]
    exact List.mem_singleton_self _
  | _ => rfl

theorem State.sameBut_halt (s : State) : State.sameBut [.running] s { s with running := false } := by
  intro l hl
  cases l with
  | reg8 r => exact State.get8_running r false s
  | reg16 p => exact State.get16_running p false s
  | running => exact absurd (List.mem_singleton_self _) hl
  | _ => rfl

section
variable {changed : List Loc} {s t : State}

/-- Counting an instruction writes the counters alone (40_control.md R90). -/
theorem State.agreeAt_countInstruction {l : Loc} (hi : l ≠ .instructionsExecuted) (hc : l ≠ .cyclesExecuted) :
    t.agreeAt (countInstruction t) l := by
  cases l with
  | reg8 r => exact State.get8_countInstruction r t
  | reg16 p => exact State.get16_countInstruction p t
  | instructionsExecuted => exact absurd rfl hi
  | cyclesExecuted => exact absurd rfl hc
  | _ => rfl

/-- Taking a fault writes the fault record and the run flag alone (60_exceptions.md R204). -/
theorem State.agreeAt_takeFault (k : Fault) {l : Loc} (hf : l ≠ .fault) (hr : l ≠ .running) :
    t.agreeAt (takeFault k t) l := by
  cases l with
  | reg8 r => exact State.get8_takeFault r k t
  | reg16 p => exact State.get16_takeFault p k t
  | fault => exact absurd rfl hf
  | running => exact absurd rfl hr
  | _ => rfl

/-- An instruction that ends in `t` completes with the frame of `t`, where it has not written the counters itself. -/
theorem State.completes_countInstruction (h : State.sameBut changed s t)
    (hi : t.instructionsExecuted = s.instructionsExecuted := by rfl)
    (hc : t.cyclesExecuted = s.cyclesExecuted := by rfl) : State.completes changed s (countInstruction t) := by
  refine ⟨congrArg (· + 1) hi, congrArg (· + 1) hc, fun l hl => ?_⟩
  simp only [List.mem_cons, not_or] at hl
  obtain ⟨hli, hlc, hl⟩ := hl
  exact State.agreeAt_trans (h l hl) (State.agreeAt_countInstruction hli hlc)

/-- An instruction that raises in `t` has the frame of `t`. -/
theorem State.raises_takeFault (k : Fault) (h : State.sameBut changed s t) :
    State.raises k changed s (takeFault k t) := by
  refine ⟨rfl, rfl, fun l hl => ?_⟩
  simp only [List.mem_cons, not_or] at hl
  obtain ⟨hlf, hlr, hl⟩ := hl
  exact State.agreeAt_trans (h l hl) (State.agreeAt_takeFault k hlf hlr)

end

/-! ### The octets of an instruction -/

/-- A row under another OPCODE_MAP is a row of the spec's own map (00_scope.md R7). -/
theorem opcodeMap_of_rowOf {map : Option OpcodeNumbering} {op : Byte} {row : OpcodeRow}
    (h : rowOf map op = some row) : ∃ op', opcodeMap op' = some row := by
  cases map with
  | none => exact ⟨op, h⟩
  | some l =>
    obtain ⟨op', _, hrow⟩ := Option.bind_eq_some_iff.mp h
    exact ⟨op', hrow⟩

/-- An instruction has as many octets as its format says (30_encoding.md R70). -/
theorem encode_length (i : Instr) : (encode i).length = i.format.octets := by
  cases i <;> rfl

/-- So the operand octets its row reads are all but one of them. -/
theorem octets_of_reads {map : Option OpcodeNumbering} {op : Byte} {operands : List Byte} {row : OpcodeRow} {i : Instr}
    (hrow : rowOf map op = some row) (hi : row.Reads operands i) : i.format.octets = operands.length + 1 := by
  obtain ⟨op', hrow'⟩ := opcodeMap_of_rowOf hrow
  rw [← encode_length, encode_of_reads hrow' hi, List.length_cons]

/-! ### The fetch -/

section
variable {s : State}

theorem State.octetAt_zero (s : State) : s.octetAt 0 = Memory.read s.mem s.pc.toNat := by simp [State.octetAt]

theorem fetch8_octet (k : Nat) (h : (s.pc + BitVec.ofNat 16 k).toNat < s.config.memSize) :
    fetch8 (s.set16 .pc (s.pc + BitVec.ofNat 16 k)) =
      .done (s.octetAt k) (s.set16 .pc (s.pc + BitVec.ofNat 16 (k + 1))) := by
  rw [fetch8_at h, BitVec.ofNat_add, BitVec.add_assoc]
  rfl

theorem fetch16_octets (k : Nat) (h : (s.pc + BitVec.ofNat 16 k).toNat < s.config.memSize)
    (h1 : (s.pc + BitVec.ofNat 16 (k + 1)).toNat < s.config.memSize) :
    fetch16 (s.set16 .pc (s.pc + BitVec.ofNat 16 k)) =
      .done (concat (s.octetAt (k + 1)) (s.octetAt k)) (s.set16 .pc (s.pc + BitVec.ofNat 16 (k + 2))) := by
  rw [fetch16, fetch8_octet k h, Effect.andThen_done, fetch8_octet (k + 1) h1, Effect.andThen_done]

/-- R90: the opcode is fetched first. -/
theorem fetchInstr_out (h : s.config.memSize ≤ s.pc.toNat) :
    fetchInstr s = .raise (.addressOutOfRange s.pc.toNat) s := by
  rw [fetchInstr, fetch8_out h, Effect.andThen_raise]

/-- R96: an unassigned opcode has been fetched, and no operand octet. -/
theorem fetchInstr_unassigned (h : s.pc.toNat < s.config.memSize)
    (hrow : rowOf s.config.opcodeMap (s.octetAt 0) = none) :
    fetchInstr s = .raise (.unknownInstruction (s.octetAt 0)) (s.set16 .pc (s.pc + 1#16)) := by
  rw [State.octetAt_zero] at hrow ⊢
  simp only [fetchInstr, fetch8_in h, Effect.andThen_done, hrow]

/-- R90: an assigned opcode is followed by its operand octets. -/
theorem fetchInstr_assigned {row : OpcodeRow} (h : s.pc.toNat < s.config.memSize)
    (hrow : rowOf s.config.opcodeMap (s.octetAt 0) = some row) :
    fetchInstr s = fetchOperands row (s.set16 .pc (s.pc + 1#16)) := by
  rw [State.octetAt_zero] at hrow
  simp only [fetchInstr, fetch8_in h, Effect.andThen_done, hrow]

/-- The fetch gives the instruction that the octets at pc decode to, with pc past them (40_control.md R90, R91). -/
theorem fetchInstr_of_decodeBy {i : Instr} {rest : List Byte}
    (hdecode : decodeBy s.config.opcodeMap [s.octetAt 0, s.octetAt 1, s.octetAt 2] = .ok (i, rest))
    (hin : ∀ k < i.format.octets, (s.pc + BitVec.ofNat 16 k).toNat < s.config.memSize) :
    fetchInstr s = .done i (s.set16 .pc (s.pc + BitVec.ofNat 16 i.format.octets)) := by
  obtain ⟨op, operands, row, hoctets, hrow, hi⟩ := reads_of_decodeBy hdecode
  have hlen := octets_of_reads hrow hi
  rw [hlen] at hin ⊢
  have hpc : s.pc.toNat < s.config.memSize := by simpa using hin 0 (Nat.succ_pos _)
  rw [List.cons_append, List.cons.injEq] at hoctets
  obtain ⟨rfl, hoctets⟩ := hoctets
  rw [fetchInstr_assigned hpc hrow]
  cases hi with
  | f0 i => rfl
  | f1 mk n =>
    obtain ⟨hn, _⟩ := List.cons.inj hoctets
    rw [fetchOperands, fetch8_octet 1 (hin 1 (by simp)), hn]
    rfl
  | f2 mk dst src =>
    obtain ⟨hpair, _⟩ := List.cons.inj hoctets
    rw [fetchOperands, fetch8_octet 1 (hin 1 (by simp)), hpair, Effect.andThen_done, pairDst_pairByte, pairSrc_pairByte]
    rfl
  | f3 mk v =>
    obtain ⟨hlow, hoctets⟩ := List.cons.inj hoctets
    obtain ⟨hhigh, _⟩ := List.cons.inj hoctets
    rw [fetchOperands, fetch16_octets 1 (hin 1 (by simp)) (hin 2 (by simp)), hlow, hhigh, concat_highByte_lowByte]
    rfl

/-- R90: the second octet of an instruction that has one. -/
theorem fetchOperands_out {row : OpcodeRow} (hrow : 2 ≤ row.format.octets) (h : s.config.memSize ≤ s.pc.toNat) :
    fetchOperands row s = .raise (.addressOutOfRange s.pc.toNat) s := by
  cases row with
  | f0 i => simp [OpcodeRow.format, Format.octets] at hrow
  | f1 mk | f2 mk => rw [fetchOperands, fetch8_out h, Effect.andThen_raise]
  | f3 mk => rw [fetchOperands, fetch16, fetch8_out h, Effect.andThen_raise, Effect.andThen_raise]

/-- R90: the third octet. -/
theorem fetchOperands_edge {row : OpcodeRow} (hrow : 3 ≤ row.format.octets) (h : s.pc.toNat < s.config.memSize)
    (h1 : s.config.memSize ≤ (s.pc + 1#16).toNat) :
    fetchOperands row s = .raise (.addressOutOfRange (s.pc + 1#16).toNat) (s.set16 .pc (s.pc + 1#16)) := by
  cases row with
  | f0 i | f1 mk | f2 mk => simp [OpcodeRow.format, Format.octets] at hrow
  | f3 mk =>
    have hhigh := fetch8_out (s := s.set16 .pc (s.pc + 1#16)) h1
    rw [fetchOperands, fetch16, fetch8_in h, Effect.andThen_done, hhigh]
    rfl

/-! ### The step -/

/-- R95: a core that does not run does nothing. -/
theorem step_of_stopped (h : s.running = false) : step s = .next s := by simp [step, h]

theorem step_of_done {i : Instr} {t : State} (h : s.running = true) (hf : fetchInstr s = .done i t) :
    step s = exec i t := by simp only [step, h, hf, if_true]

/-- R204: a fault of the fetch is taken. -/
theorem step_of_raise {k : Fault} {t : State} (h : s.running = true) (hf : fetchInstr s = .raise k t) :
    step s = .next (takeFault k t) := by simp only [step, h, hf, if_true]

/-- A fault of the fetch with pc at `a` leaves pc there and changes nothing else (60_exceptions.md R204). -/
theorem step_raises_at {k : Fault} {a : Word} (h : s.running = true) (hf : fetchInstr s = .raise k (s.set16 .pc a)) :
    ∃ t, step s = .next t ∧ State.raises k [.reg16 .pc] s t ∧ t.pc = a :=
  ⟨_, step_of_raise h hf, State.raises_takeFault k (State.sameBut_set16 .pc a s), rfl⟩

end

/-- Settles O6: the step tests the run flag before it fetches. -/
theorem haltedStepDoesNothing : Obligations.HaltedStepDoesNothing := fun _ h => step_of_stopped h

/-- Settles O5: the fetch gives the decoded instruction, and the step runs what the fetch gave. -/
theorem stepRunsDecodedInstruction : Obligations.StepRunsDecodedInstruction := fun _ _ _ hrun hdecode hin =>
  step_of_done hrun (fetchInstr_of_decodeBy hdecode hin)

/-- Settles O7: one clause for each octet the fetch can fail at. -/
theorem fetchFaultsStopAtTheFailingOctet : Obligations.FetchFaultsStopAtTheFailingOctet := by
  intro s hrun
  refine ⟨fun hout => ?_, fun row hrow hpc => ⟨fun hformat hout => ?_, fun hformat hpc1 hout => ?_⟩⟩
  · exact ⟨_, step_of_raise hrun (fetchInstr_out hout), State.raises_takeFault _ (State.sameBut_refl [] s)⟩
  · refine step_raises_at hrun ?_
    rw [fetchInstr_assigned hpc hrow]
    exact fetchOperands_out (s := s.set16 .pc (s.pc + 1#16)) hformat hout
  · have hnext : s.pc + 2#16 = s.pc + 1#16 + 1#16 := by rw [BitVec.add_assoc]; rfl
    rw [hnext] at hout ⊢
    refine step_raises_at hrun ?_
    rw [fetchInstr_assigned hpc hrow]
    exact fetchOperands_edge (s := s.set16 .pc (s.pc + 1#16)) hformat hpc1 hout

end Sys2Proof.Machine
end

section
/-!
Which steps end with UnknownInstruction (O4).

The fetch records it for an opcode without a row, and nothing else does: `Effect.NoUnknown s` says of an effect that it
leaves the fault record of `s` where it goes on and raises no UnknownInstruction. It holds of the memory primitives, is
carried along `andThen`, and so holds of the fetch of operands and of every instruction but a SYS under a handler.
-/

namespace Sys2Proof.Machine

/-! ### The unassigned opcodes -/

/-- The decoder refuses an opcode exactly where it has no row (30_encoding.md R78). -/
theorem decodeBy_singleton_unknown {map : Option OpcodeNumbering} {op : Byte} :
    decodeBy map [op] = .error (.unknownOpcode op) ↔ rowOf map op = none := by
  refine ⟨fun h => ?_, decodeBy_unassigned []⟩
  cases hrow : rowOf map op with
  | none => rfl
  | some row =>
    rw [decodeBy, hrow] at h
    cases row <;> cases h

/-- 30_encoding.md R78, read off the table of R77. -/
theorem opcodeMap_isNone_iff : ∀ op : Byte, (opcodeMap op).isNone = true ↔
    (0x03 ≤ op.toNat ∧ op.toNat ≤ 0x07) ∨ (0x36 ≤ op.toNat ∧ op.toNat ≤ 0x37) ∨
    (0x3E ≤ op.toNat ∧ op.toNat ≤ 0x3F) ∨ (0x46 ≤ op.toNat ∧ op.toNat ≤ 0x47) ∨
    (0x6E ≤ op.toNat ∧ op.toNat ≤ 0x6F) ∨ (0x7E ≤ op.toNat ∧ op.toNat ≤ 0x7F) ∨ op.toNat = 0x87 ∨
    (0x8E ≤ op.toNat ∧ op.toNat ≤ 0x8F) ∨ (0x9A ≤ op.toNat ∧ op.toNat ≤ 0x9F) ∨ 0xB0 ≤ op.toNat := by
  decide

/-! ### Effects that raise no UnknownInstruction -/

/-- An effect that leaves the fault record of `s` where it goes on, and raises no UnknownInstruction. -/
def Effect.NoUnknown {α : Type} (s : State) : Effect α → Prop
  | .done _ t => t.fault = s.fault
  | .raise k _ => ∀ op, k ≠ .unknownInstruction op

theorem Effect.NoUnknown.andThen {α β : Type} {s : State} {r : Effect α} {k : α → State → Effect β}
    (h : r.NoUnknown s) (hk : ∀ v t, (k v t).NoUnknown t) : (r.andThen k).NoUnknown s := by
  cases r with
  | raise f t => exact h
  | done v t =>
    have hkt := hk v t
    rw [Effect.andThen_done]
    cases hr : k v t with
    | done w u =>
      rw [hr] at hkt
      exact hkt.trans h
    | raise f u =>
      rw [hr] at hkt
      exact hkt

/-- Where an outcome is a next state, an UnknownInstruction it has recorded was recorded before. -/
def NextNoUnknown (s : State) (o : Host.Outcome State Fault Refusal) : Prop :=
  ∀ t op, o = .next t → t.fault = some (.unknownInstruction op) → s.fault = some (.unknownInstruction op)

section
variable {s : State}

theorem finish_noUnknown {r : Effect Unit} (h : r.NoUnknown s) : NextNoUnknown s (finish r) := by
  intro t op ht hfault
  cases r with
  | done v u =>
    cases ht
    exact h.symm.trans hfault
  | raise k u =>
    cases ht
    exact absurd (Option.some.inj hfault) (h op)

/-- An instruction that raises nothing and ends with the fault record of `s`. -/
theorem finish_done_noUnknown {t : State} (h : t.fault = s.fault := by rfl) :
    NextNoUnknown s (finish (.done () t)) := finish_noUnknown (r := .done () t) h

/-! ### Memory and stack -/

theorem readByte_noUnknown (a : Nat) : (readByte a s).NoUnknown s := by
  rcases Nat.lt_or_ge a s.config.memSize with hin | hout
  · rw [readByte_in hin]
    rfl
  · rw [readByte_out hout]
    exact nofun

theorem writeByte_noUnknown (a : Nat) (v : Byte) : (writeByte a v s).NoUnknown s := by
  rcases Nat.lt_or_ge a s.config.memSize with hin | hout
  · rw [writeByte_in v hin]
    rfl
  · rw [writeByte_out v hout]
    exact nofun

theorem readWord_noUnknown (a : Nat) : (readWord a s).NoUnknown s :=
  (readByte_noUnknown a).andThen fun _ _ => (readByte_noUnknown (a + 1)).andThen fun _ _ => rfl

theorem writeWord_noUnknown (a : Nat) (v : Word) : (writeWord a v s).NoUnknown s := by
  rcases Nat.lt_or_ge a s.config.memSize with hin | hout
  · rcases Nat.lt_or_ge (a + 1) s.config.memSize with hin1 | hout1
    · rw [writeWord_in v hin1]
      rfl
    · rw [writeWord_edge v hin hout1]
      exact nofun
  · rw [writeWord_out v hout]
    exact nofun

theorem push8_noUnknown (v : Byte) : (push8 v s).NoUnknown s := (writeByte_noUnknown _ v).andThen fun _ _ => rfl

theorem pop8_noUnknown : (pop8 s).NoUnknown s := readByte_noUnknown (s := s.set16 .sp (s.sp + 1#16)) _

theorem push16_noUnknown (v : Word) : (push16 v s).NoUnknown s :=
  (push8_noUnknown _).andThen fun _ _ => push8_noUnknown _

theorem pop16_noUnknown : (pop16 s).NoUnknown s :=
  pop8_noUnknown.andThen fun _ _ => pop8_noUnknown.andThen fun _ _ => rfl

/-! ### Fetch -/

theorem fetch8_noUnknown : (fetch8 s).NoUnknown s := (readByte_noUnknown _).andThen fun _ _ => rfl

theorem fetch16_noUnknown : (fetch16 s).NoUnknown s :=
  fetch8_noUnknown.andThen fun _ _ => fetch8_noUnknown.andThen fun _ _ => rfl

theorem fetchOperands_noUnknown (row : OpcodeRow) : (fetchOperands row s).NoUnknown s := by
  cases row with
  | f0 i => rfl
  | f1 mk | f2 mk => exact fetch8_noUnknown.andThen fun _ _ => rfl
  | f3 mk => exact fetch16_noUnknown.andThen fun _ _ => rfl

/-- The fetch raises UnknownInstruction for the opcode at pc alone, and only where that has no row (40_control.md R96).
-/
theorem fetchInstr_unknown {op : Byte} {t : State} (h : fetchInstr s = .raise (.unknownInstruction op) t) :
    op = s.octetAt 0 ∧ s.pc.toNat < s.config.memSize ∧ rowOf s.config.opcodeMap op = none := by
  rcases Nat.lt_or_ge s.pc.toNat s.config.memSize with hin | hout
  · cases hrow : rowOf s.config.opcodeMap (s.octetAt 0) with
    | none =>
      rw [fetchInstr_unassigned hin hrow] at h
      cases h
      exact ⟨rfl, hin, hrow⟩
    | some row =>
      have hoperands := fetchOperands_noUnknown (s := s.set16 .pc (s.pc + 1#16)) row
      rw [← fetchInstr_assigned hin hrow, h] at hoperands
      exact absurd rfl (hoperands op)
  · rw [fetchInstr_out hout] at h
    cases h

/-! ### The instructions -/

theorem withPair_noUnknown (dst src : RegCode) {k : Reg8 → Reg8 → State → Effect Unit}
    (hk : ∀ x y, (k x y s).NoUnknown s) : (withPair dst src k s).NoUnknown s := by
  cases hd : reg8OfCode dst with
  | none =>
    rw [withPair_dst k s (reg8OfCode_eq_none.mp hd)]
    exact nofun
  | some x =>
    cases hs : reg8OfCode src with
    | none =>
      rw [withPair_src k s hd (reg8OfCode_eq_none.mp hs)]
      exact nofun
    | some y =>
      rw [withPair_valid k s hd hs]
      exact hk x y

/-- A jump writes pc or nothing (43_jumps_calls.md R140, R149). -/
theorem jump_noUnknown (taken : Bool) (a : Word) :
    (Effect.done () (if taken then s.set16 .pc a else s)).NoUnknown s := by
  cases taken <;> rfl

theorem loadA_noUnknown (a : Nat) : (loadA a s).NoUnknown s := (readByte_noUnknown a).andThen fun _ _ => rfl

/-- The execute phase records no UnknownInstruction, that of a SYS where there is no handler: those that cannot fault
write registers, flags and the run flag alone, and the others add an access of memory or the check of a register-pair
byte. -/
theorem exec_noUnknown (i : Instr) (hsys : ∀ n, i = .sys n → s.sysHandler = none) : NextNoUnknown s (exec i s) := by
  cases i with
  | sys n =>
    intro t op ht
    cases (execSys_none (hsys n rfl)).symm.trans ht
  | nop | halt
  | ldaImm | ldbImm | ldcImm | lddImm | ldeImm | ldfImm | lddaImm | lddbImm | ldixImm | ldiyImm
  | movDaDb | movDbDa | movDaIdx | movDaIdy | movDbIdx | movDbIdy
  | movIdxDa | movIdyDa | movIdxDb | movIdyDb | movIdxIdy | movIdyIdx | swapDaDb | swapIdxIdy
  | incA | incB | incC | incD | incE | incF | decA | decB | decC | decD | decE | decF
  | notA | notB | notC | notD | notE | notF | shlA | shlB | shlC | shlD | shlE | shlF
  | shrA | shrB | shrC | shrD | shrE | shrF
  | incDa | incDb | decDa | decDb | addDaDb | addDbDa | subDaDb | subDbDa
  | cmpAImm | cmpBImm | cmpCImm | cmpDImm | cmpEImm | cmpFImm | cmpDaImm | cmpDbImm | cmpDaDb | cmpDbDa
  | incIdx | incIdy | decIdx | decIdy | addIdxImm | addIdyImm => exact finish_done_noUnknown
  | addReg | subReg | cmpReg | andReg | orReg | xorReg | movReg | swapReg =>
    exact finish_noUnknown (withPair_noUnknown _ _ fun _ _ => rfl)
  | jmp | jz | jnz | jc | jnc | jn | jnn | jr | jrz | jrnz | jrc => exact finish_noUnknown (jump_noUnknown _ _)
  | call => exact finish_noUnknown ((push16_noUnknown _).andThen fun _ _ => rfl)
  | ret => exact finish_noUnknown (pop16_noUnknown.andThen fun _ _ => rfl)
  | pushA | pushB | pushC | pushD | pushE | pushF => exact finish_noUnknown (push8_noUnknown _)
  | pushDa | pushDb => exact finish_noUnknown (push16_noUnknown _)
  | popA | popB | popC | popD | popE | popF => exact finish_noUnknown (pop8_noUnknown.andThen fun _ _ => rfl)
  | popDa | popDb => exact finish_noUnknown (pop16_noUnknown.andThen fun _ _ => State.put16_fault _ _ _)
  | ldaAbs | ldbAbs | ldcAbs | lddAbs | ldeAbs | ldfAbs =>
    exact finish_noUnknown ((readByte_noUnknown _).andThen fun _ _ => rfl)
  | lddaAbs | lddbAbs | ldixAbs | ldiyAbs =>
    exact finish_noUnknown ((readWord_noUnknown _).andThen fun _ _ => State.put16_fault _ _ _)
  | staAbs | stbAbs | stcAbs | stdAbs | steAbs | stfAbs | staIdx | staIdy | staIdxDisp | staIdyDisp =>
    exact finish_noUnknown (writeByte_noUnknown _ _)
  | stdaAbs | stdbAbs => exact finish_noUnknown (writeWord_noUnknown _ _)
  | ldaIdx | ldaIdy | ldaIdxDisp | ldaIdyDisp => exact finish_noUnknown (loadA_noUnknown _)
  | ldaIdxInc | ldaIdyInc | ldaIdxDec | ldaIdyDec =>
    exact finish_noUnknown ((loadA_noUnknown _).andThen fun _ _ => rfl)
  | staIdxInc | staIdyInc | staIdxDec | staIdyDec =>
    exact finish_noUnknown ((writeByte_noUnknown _ _).andThen fun _ _ => rfl)

/-- A step that records UnknownInstruction, and runs no handler, has taken the fault of its fetch. -/
theorem step_unknown {t : State} {op : Byte} (hrun : s.running = true) (hnone : s.fault = none)
    (hnohandler : ¬ s.runsHandler) (hstep : step s = .next t) (hfault : t.fault = some (.unknownInstruction op)) :
    ∃ u, fetchInstr s = .raise (.unknownInstruction op) u := by
  cases hf : fetchInstr s with
  | raise k u =>
    cases (step_of_raise hrun hf).symm.trans hstep
    cases hfault
    exact ⟨u, rfl⟩
  | done i u =>
    rw [step_of_done hrun hf] at hstep
    have hu := fetchInstr_done hf
    have hsys (n : Byte) (hi : i = .sys n) : u.sysHandler = none := by
      rw [hu]
      exact Decidable.of_not_not fun hs => hnohandler ⟨hs, n, u, hi ▸ hf⟩
    have hufault := exec_noUnknown i hsys t op hstep hfault
    rw [hu, State.set16_fault, hnone] at hufault
    cases hufault

end

/-- Settles O4: the list is read off the table, the fetch of an opcode without a row raises, and no other part of a step
does. -/
theorem unassignedOpcodesRaise : Obligations.UnassignedOpcodesRaise := by
  refine ⟨fun op => ?_, fun s hrun => ⟨fun hin hdecode => ?_, fun t k hnone hnohandler hstep hfault => ?_⟩⟩
  · exact decodeBy_singleton_unknown.trans (Option.isNone_iff_eq_none.symm.trans (opcodeMap_isNone_iff op))
  · exact step_raises_at hrun (fetchInstr_unassigned hin (decodeBy_singleton_unknown.mp hdecode))
  · obtain ⟨u, hf⟩ := step_unknown hrun hnone hnohandler hstep hfault
    obtain ⟨hk, hin, hrow⟩ := fetchInstr_unknown hf
    exact ⟨hk, hin, decodeBy_singleton_unknown.mpr hrow⟩

end Sys2Proof.Machine
end

section
/-!
Only control transfers write pc (O14), by the lemmas on effects that keep a 16-bit register.
-/

namespace Sys2Proof.Machine

section
variable {q : Reg16} {s : State}

/-! ### The stack moves SP alone -/

theorem push8_keeps16 (hq : q ≠ .sp) (v : Byte) : (push8 v s).Keeps16 q s :=
  (writeByte_keeps16 _ v).andThen fun _ _ => .done (State.get16_set16_other _ _ hq)

theorem pop8_keeps16 (hq : q ≠ .sp) : (pop8 s).Keeps16 q s := by
  have hset : (s.set16 .sp (s.sp + 1#16)).get16 q = s.get16 q := State.get16_set16_other _ s hq
  exact Effect.Keeps16.andThen (r := .done () (s.set16 .sp (s.sp + 1#16)))
    (k := fun _ t => readByte t.sp.toNat t) hset fun _ _ => readByte_keeps16 _

theorem push16_keeps16 (hq : q ≠ .sp) (v : Word) : (push16 v s).Keeps16 q s :=
  (push8_keeps16 hq _).andThen fun _ _ => push8_keeps16 hq _

theorem pop16_keeps16 (hq : q ≠ .sp) : (pop16 s).Keeps16 q s :=
  (pop8_keeps16 hq).andThen fun _ _ => (pop8_keeps16 hq).andThen fun _ _ => .done rfl

theorem popReg8_keeps16 (hq : q ≠ .sp) (r : Reg8) : (popReg8 r s).Keeps16 q s :=
  (pop8_keeps16 hq).andThen fun _ _ => .done (State.get16_put8 _ _ _ _)

theorem popReg16_keeps16 {p : Reg16} (hq : q ≠ .sp) (hp : q ≠ p) : (popReg16 p s).Keeps16 q s :=
  (pop16_keeps16 hq).andThen fun _ _ => .done (State.get16_put16_other _ _ hp)

end

/-! ### pc -/

/-- A SYS leaves pc after it unless its handler documents that it writes pc (40_control.md R94). -/
theorem execSys_keeps_pc_or (n : Byte) (s : State) :
    NextKeeps16 .pc s (execSys n s) ∨ ∃ h, s.sysHandler = some h ∧ h.writesPc = true := by
  cases hs : s.sysHandler with
  | none =>
    refine .inl fun t ht => ?_
    cases (execSys_none hs).symm.trans ht
  | some hd =>
    cases hpc : hd.writesPc with
    | true => exact .inr ⟨hd, rfl, hpc⟩
    | false =>
      refine .inl fun t ht => ?_
      rw [execSys_some hs, hpc] at ht
      cases hr : hd.reply n s.arch with
      | completes u =>
        cases (sysWith_completes _ hr).symm.trans ht
        rfl
      | raises k u =>
        cases (sysWith_raises _ hr).symm.trans ht
        rfl
      | refuses => cases (sysWith_refuses _ hr).symm.trans ht

/-- The jumps, calls and returns, which may write pc (40_control.md R91). -/
def TransfersControl (i : Instr) : Prop :=
  (∃ a, i = .jmp a ∨ i = .jz a ∨ i = .jnz a ∨ i = .jc a ∨ i = .jnc a ∨ i = .jn a ∨ i = .jnn a ∨ i = .call a) ∨
    i = .ret ∨ ∃ d, i = .jr d ∨ i = .jrz d ∨ i = .jrnz d ∨ i = .jrc d

/-- 40_control.md R91: besides these, SYS is the only instruction that may write pc; every other one keeps it. Those
that do not touch memory write named registers other than pc, flags and the run flag. -/
theorem exec_keeps_pc_or (i : Instr) (s : State) :
    NextKeeps16 .pc s (exec i s) ∨ TransfersControl i ∨ ∃ n, i = .sys n := by
  cases i with
  | jmp a | jz a | jnz a | jc a | jnc a | jn a | jnn a | call a => exact .inr (.inl (.inl ⟨a, by simp⟩))
  | ret => exact .inr (.inl (.inr (.inl rfl)))
  | jr d | jrz d | jrnz d | jrc d => exact .inr (.inl (.inr (.inr ⟨d, by simp⟩)))
  | sys n => exact .inr (.inr ⟨n, rfl⟩)
  | nop | halt
  | ldaImm | ldbImm | ldcImm | lddImm | ldeImm | ldfImm | lddaImm | lddbImm | ldixImm | ldiyImm
  | movDaDb | movDbDa | movDaIdx | movDaIdy | movDbIdx | movDbIdy
  | movIdxDa | movIdyDa | movIdxDb | movIdyDb | movIdxIdy | movIdyIdx | swapDaDb | swapIdxIdy
  | incA | incB | incC | incD | incE | incF | decA | decB | decC | decD | decE | decF
  | notA | notB | notC | notD | notE | notF | shlA | shlB | shlC | shlD | shlE | shlF
  | shrA | shrB | shrC | shrD | shrE | shrF
  | incDa | incDb | decDa | decDb | addDaDb | addDbDa | subDaDb | subDbDa
  | cmpAImm | cmpBImm | cmpCImm | cmpDImm | cmpEImm | cmpFImm | cmpDaImm | cmpDbImm | cmpDaDb | cmpDbDa
  | incIdx | incIdy | decIdx | decIdy | addIdxImm | addIdyImm => exact .inl (finish_done_keeps16 rfl)
  | addReg | subReg | cmpReg | andReg | orReg | xorReg | movReg | swapReg =>
    exact .inl (finish_keeps16 (withPair_keeps16 _ _ fun _ _ => rfl))
  | pushA | pushB | pushC | pushD | pushE | pushF => exact .inl (finish_keeps16 (push8_keeps16 (by decide) _))
  | pushDa | pushDb => exact .inl (finish_keeps16 (push16_keeps16 (by decide) _))
  | popA | popB | popC | popD | popE | popF => exact .inl (finish_keeps16 (popReg8_keeps16 (by decide) _))
  | popDa | popDb => exact .inl (finish_keeps16 (popReg16_keeps16 (by decide) (by decide)))
  | ldaAbs | ldbAbs | ldcAbs | lddAbs | ldeAbs | ldfAbs => exact .inl (finish_keeps16 (loadAbs8_keeps16 _ _))
  | lddaAbs | lddbAbs | ldixAbs | ldiyAbs => exact .inl (finish_keeps16 (loadAbs16_keeps16 (by decide) _))
  | staAbs | stbAbs | stcAbs | stdAbs | steAbs | stfAbs | staIdx | staIdy | staIdxDisp | staIdyDisp =>
    exact .inl (finish_keeps16 (writeByte_keeps16 _ _))
  | stdaAbs | stdbAbs => exact .inl (finish_keeps16 (writeWord_keeps16 _ _))
  | ldaIdx | ldaIdy | ldaIdxDisp | ldaIdyDisp => exact .inl (finish_keeps16 (loadA_keeps16 _))
  | ldaIdxInc | ldaIdyInc | ldaIdxDec | ldaIdyDec =>
    exact .inl (finish_keeps16 ((loadA_keeps16 _).thenPointer (by decide)))
  | staIdxInc | staIdyInc | staIdxDec | staIdyDec =>
    exact .inl (finish_keeps16 ((writeByte_keeps16 _ _).thenPointer (by decide)))

/-- Settles O14: pc changes only under a jump, call or return, or a SYS whose handler documents that it writes pc. -/
theorem onlyControlTransfersWritePc : Obligations.OnlyControlTransfersWritePc := by
  intro i s t hexec hpc
  rcases exec_keeps_pc_or i s with hkeeps | (hjump | hret | hrel) | ⟨n, rfl⟩
  · exact absurd (hkeeps t hexec) hpc
  · exact .inl hjump
  · exact .inr (.inl hret)
  · exact .inr (.inr (.inl hrel))
  · rcases execSys_keeps_pc_or n s with hkeeps | ⟨h, hs, hwrites⟩
    · exact absurd (hkeeps t hexec) hpc
    · exact .inr (.inr (.inr ⟨n, h, rfl, hs, hwrites⟩))

end Sys2Proof.Machine
end

section
/-!
NOP, HALT and SYS (O28, O29).
-/

namespace Sys2Proof.Machine

/-- Settles O28: neither changes the state it counts, but for the run flag that HALT clears. -/
theorem nopAndHalt : Obligations.NopAndHalt :=
  ⟨decode_encode .nop, decode_encode .halt, fun s =>
    ⟨⟨_, rfl, State.completes_countInstruction (State.sameBut_refl [] s)⟩,
      ⟨_, rfl, State.completes_countInstruction (State.sameBut_halt s), rfl⟩⟩⟩

/-- What a handler leaves is all of its state but pc, and its memory inside the byte array (40_control.md R94). -/
theorem State.leftByHandler_afterHandler (s : State) (h : SysHandler) (u : ArchState) :
    State.leftByHandler h u s (s.afterHandler h.writesPc u) :=
  ⟨rfl, fun _ ha => Memory.read_normal u.mem ha, rfl, rfl, rfl, rfl⟩

/-- Settles O29, by what the machine's handler, or its absence, makes of the call. -/
theorem sysIsRefusedWithoutHandler : Obligations.SysIsRefusedWithoutHandler := by
  intro n s
  refine ⟨decode_encode (.sys n), execSys_none, fun h hs => ?_⟩
  have hexec : exec (.sys n) s = sysWith h.reply h.writesPc n s := execSys_some hs
  have hleft := s.leftByHandler_afterHandler h
  rw [hexec]
  exact ⟨fun u hu => ⟨_, sysWith_completes _ hu, hleft u, rfl, rfl, rfl, rfl⟩,
    fun k u hu => ⟨_, sysWith_raises _ hu, hleft u, rfl, rfl, rfl, rfl⟩, sysWith_refuses _⟩

end Sys2Proof.Machine
end

section
/-!
Immediate and absolute loads (O30, O31, O32, O33).

A load ends in a load-class write of one register: `loads8_of_exec`, `loadsPair_of_exec` and `loadsPointer_of_exec` say
what an instruction that ends so does, whatever it loads. A load from memory ends so where its bytes lie in memory, and
otherwise raises in the state it began in (`raises_of_exec`).
-/

namespace Sys2Proof.Machine

/-! ### The frame of a load-class write -/

section
variable {s t u : State}

theorem State.sameBut_append {changed changed' : List Loc} (h : State.sameBut changed s t)
    (h' : State.sameBut changed' t u) : State.sameBut (changed ++ changed') s u := fun l hl =>
  State.agreeAt_trans (h l fun hm => hl (List.mem_append_left _ hm)) (h' l fun hm => hl (List.mem_append_right _ hm))

theorem State.sameBut_set8 (r : Reg8) (v : Byte) (s : State) : State.sameBut [.reg8 r] s (s.set8 r v) := by
  intro l hl
  cases l with
  | reg8 x =>
    refine State.get8_set8_other v s fun h => hl ?_
    rw [h]
    exact List.mem_singleton_self _
  | reg16 q => exact State.get16_set8 q r v s
  | _ => rfl

theorem State.sameBut_setZ {w : Nat} (v : BitVec w) (s : State) : State.sameBut [.flagZ] s (setZ v s) := by
  intro l hl
  cases l with
  | reg8 x => exact State.get8_setZ x v s
  | reg16 q => exact State.get16_setZ q v s
  | flagZ => exact absurd (List.mem_singleton_self _) hl
  | _ => rfl

/-- A load-class write of DA or DB is the write of the register, and then of Zero (10_state.md R37). -/
theorem State.put16_eq_setZ {q : Reg16} (hq : q = .da ∨ q = .db) (v : Word) (s : State) :
    s.put16 q v = setZ v (s.set16 q v) := State.put16_pair hq v s

theorem State.sameBut_put8 (r : Reg8) (v : Byte) (s : State) : State.sameBut [.reg8 r, .flagZ] s (s.put8 r v) :=
  State.sameBut_append (State.sameBut_set8 r v s) (State.sameBut_setZ v _)

theorem State.sameBut_put16_pair {q : Reg16} (hq : q = .da ∨ q = .db) (v : Word) (s : State) :
    State.sameBut [.reg16 q, .flagZ] s (s.put16 q v) := by
  rw [State.put16_eq_setZ hq]
  exact State.sameBut_append (State.sameBut_set16 q v s) (State.sameBut_setZ v _)

/-! ### The value and the Zero flag of a load-class write -/

@[simp] theorem State.get8_put8_same (r : Reg8) (v : Byte) (s : State) : (s.put8 r v).get8 r = v :=
  (State.get8_setZ r v _).trans (State.get8_set8_same r v s)

@[simp] theorem State.get16_put16_same (q : Reg16) (v : Word) (s : State) : (s.put16 q v).get16 q = v := by
  cases q <;> rfl

/-- Zero is tested on every bit of the value (10_state.md R27). -/
theorem setZ_flags_z {w : Nat} (v : BitVec w) (s : State) : (setZ v s).flags.z = decide (v.toNat = 0) :=
  decide_eq_decide.mpr BitVec.toNat_eq

end

/-! ### Instructions that end in a load-class write, and those that fault -/

section
variable {i : Instr} {s : State}

theorem loads8_of_exec {r : Reg8} {v : Byte} (h : exec i s = finish (.done () (s.put8 r v))) : Loads8 s i r v :=
  ⟨_, h, State.completes_countInstruction (State.sameBut_put8 r v s),
    (State.get8_countInstruction r _).trans (State.get8_put8_same r v s), setZ_flags_z v _⟩

theorem loadsPair_of_exec {q : Reg16} {v : Word} (hq : q = .da ∨ q = .db)
    (h : exec i s = finish (.done () (s.put16 q v))) : LoadsPair s i q v := by
  refine ⟨_, h, State.completes_countInstruction (State.sameBut_put16_pair hq v s) (s.put16_instructionsExecuted q v)
    (s.put16_cyclesExecuted q v), by simp, ?_⟩
  rw [countInstruction_flags, State.put16_eq_setZ hq, setZ_flags_z]

theorem loadsPointer_of_exec {p : Reg16} {v : Word} (hp : p ≠ .da ∧ p ≠ .db)
    (h : exec i s = finish (.done () (s.put16 p v))) : LoadsPointer s i p v := by
  rw [State.put16_address hp] at h
  exact ⟨_, h, State.completes_countInstruction (State.sameBut_set16 p v s), by simp⟩

/-- An instruction that raises before it has written anything changes nothing but what taking the fault changes
(60_exceptions.md R204). -/
theorem raises_of_exec {k : Fault} (h : exec i s = finish (.raise k s)) :
    ∃ t, exec i s = .next t ∧ State.raises k [] s t :=
  ⟨_, h, State.raises_takeFault k (State.sameBut_refl [] s)⟩

/-! ### Loads from an absolute address -/

theorem loadsByteAt_of_exec {r : Reg8} {a : Word} (h : exec i s = finish (loadAbs8 r a s)) : LoadsByteAt s i r a := by
  refine ⟨fun hin => loads8_of_exec ?_, fun hout => raises_of_exec ?_⟩
  · rw [h, loadAbs8, readByte_in hin, Effect.andThen_done]
  · rw [h, loadAbs8, readByte_out hout, Effect.andThen_raise]

/-- What holds of the loaded word is what the load-class write of its register gives (20_memory.md R54). -/
theorem loadsWordAt_of_exec {q : Reg16} {a : Word} {P : Word → Prop} (h : exec i s = finish (loadAbs16 q a s))
    (hP : ∀ v, exec i s = finish (.done () (s.put16 q v)) → P v) : LoadsWordAt s i a P := by
  refine ⟨fun hin => ⟨_, ?_, hP (concat (Memory.read s.mem (a.toNat + 1)) (Memory.read s.mem a.toNat)) ?_⟩,
    fun hout => raises_of_exec ?_, fun hin hout => raises_of_exec ?_⟩
  · rw [concat_toNat, Nat.add_comm, Nat.mul_comm]
  · rw [h, loadAbs16, readWord_in hin, Effect.andThen_done]
  · rw [h, loadAbs16, readWord_out hout, Effect.andThen_raise]
  · rw [h, loadAbs16, readWord_edge hin hout, Effect.andThen_raise]

end

/-! ### The encodings -/

/-- The octets of a 16-bit operand are those that `encode` writes for it (30_encoding.md R74). -/
theorem octets_of_word {lo hi : Byte} {v : Word} (h : v.toNat = hi.toNat * 256 + lo.toNat) :
    lo = lowByte v ∧ hi = highByte v := by
  have hv : v = concat hi lo := BitVec.eq_of_toNat_eq (h.trans (concat_toNat hi lo).symm)
  rw [hv, lowByte_concat, highByte_concat]
  exact ⟨rfl, rfl⟩

/-! ### The statements -/

/-- Settles O30: each of the six ends in the load-class write of its own register. -/
theorem loadImmediate8 : Obligations.LoadImmediate8 := fun n _ =>
  ⟨⟨decode_encode (.ldaImm n), loads8_of_exec rfl⟩, ⟨decode_encode (.ldbImm n), loads8_of_exec rfl⟩,
    ⟨decode_encode (.ldcImm n), loads8_of_exec rfl⟩, ⟨decode_encode (.lddImm n), loads8_of_exec rfl⟩,
    ⟨decode_encode (.ldeImm n), loads8_of_exec rfl⟩, ⟨decode_encode (.ldfImm n), loads8_of_exec rfl⟩⟩

/-- Settles O31: each of the six reads the byte, or faults, before it writes its own register. -/
theorem loadAbsolute8 : Obligations.LoadAbsolute8 := by
  intro lo hi a s h
  obtain ⟨rfl, rfl⟩ := octets_of_word h
  exact ⟨⟨decode_encode (.ldaAbs a), loadsByteAt_of_exec rfl⟩, ⟨decode_encode (.ldbAbs a), loadsByteAt_of_exec rfl⟩,
    ⟨decode_encode (.ldcAbs a), loadsByteAt_of_exec rfl⟩, ⟨decode_encode (.lddAbs a), loadsByteAt_of_exec rfl⟩,
    ⟨decode_encode (.ldeAbs a), loadsByteAt_of_exec rfl⟩, ⟨decode_encode (.ldfAbs a), loadsByteAt_of_exec rfl⟩⟩

/-- Settles O32: DA and DB are written with Zero, the index pointers with no flag. -/
theorem loadImmediate16 : Obligations.LoadImmediate16 := by
  intro lo hi nn s h
  obtain ⟨rfl, rfl⟩ := octets_of_word h
  exact ⟨⟨decode_encode (.lddaImm nn), loadsPair_of_exec (by decide) rfl⟩,
    ⟨decode_encode (.lddbImm nn), loadsPair_of_exec (by decide) rfl⟩,
    ⟨decode_encode (.ldixImm nn), loadsPointer_of_exec (by decide) rfl⟩,
    ⟨decode_encode (.ldiyImm nn), loadsPointer_of_exec (by decide) rfl⟩⟩

/-- Settles O33: each of the four reads the word, or faults at the first byte outside memory, before it writes its own
register. -/
theorem loadAbsolute16 : Obligations.LoadAbsolute16 := by
  intro lo hi a s h
  obtain ⟨rfl, rfl⟩ := octets_of_word h
  exact ⟨⟨decode_encode (.lddaAbs a), loadsWordAt_of_exec rfl fun _ => loadsPair_of_exec (by decide)⟩,
    ⟨decode_encode (.lddbAbs a), loadsWordAt_of_exec rfl fun _ => loadsPair_of_exec (by decide)⟩,
    ⟨decode_encode (.ldixAbs a), loadsWordAt_of_exec rfl fun _ => loadsPointer_of_exec (by decide)⟩,
    ⟨decode_encode (.ldiyAbs a), loadsWordAt_of_exec rfl fun _ => loadsPointer_of_exec (by decide)⟩⟩

end Sys2Proof.Machine
end

section
/-!
The ALU instructions (O34 to O42).

Every ALU primitive answers a value and the flags of that value: the equations `aluAdd_eq_flagsArith` to
`aluShr_eq_flagsArith` say so in one form, with the Carry of each. `computes8_of_exec` and `computes16_of_exec` say what
an instruction that stores such an answer in a register does, `compares_of_exec` what one that discards it does. The
register-pair instructions are read through `exec_codeOf` where both fields name registers and through
`checksPair_of_exec` where one does not.
-/

namespace Sys2Proof.Machine

/-! ### The flags of a value -/

section
variable {w : Nat}

theorem flagsArith_flags_z (v : BitVec w) (carry : Bool) (s : State) :
    (flagsArith v.toNat w carry s).flags.z = decide (v.toNat = 0) := by
  rw [flagsArith_flags, ofInt_toNat]
  exact setZ_flags_z v s

theorem flagsArith_flags_n (v : BitVec w) (carry : Bool) (s : State) :
    (flagsArith v.toNat w carry s).flags.n = v.getLsbD (w - 1) := by
  rw [flagsArith_flags, ofInt_toNat, BitVec.msb_eq_getLsbD_last]

/-- The flags and the draw of Overflow are all that the flag computation writes (42_alu.md R110). -/
theorem State.sameBut_flagsArith (raw : Int) (w : Nat) (carry : Bool) (s : State) :
    State.sameBut aluFlags s (flagsArith raw w carry s) := by
  intro l hl
  cases l with
  | reg8 r => exact State.get8_flagsArith r raw w carry s
  | reg16 q => exact State.get16_flagsArith q raw w carry s
  | flagZ | flagC | flagN | flagO | draws => exact absurd (by decide) hl
  | _ => rfl

/-! ### What the primitives answer -/

theorem aluAdd_eq_flagsArith (d r : BitVec w) (s : State) :
    aluAdd d r s = (d + r, flagsArith (d + r).toNat w (decide (d.toNat + r.toNat > widthMask w)) s) := by
  rw [aluAdd_eq, flagsArith, ofInt_toNat]

theorem aluSub_eq_flagsArith (d r : BitVec w) (s : State) :
    aluSub d r s = (d - r, flagsArith (d - r).toNat w (decide (d.toNat < r.toNat)) s) := by
  rw [aluSub_eq, flagsArith, ofInt_toNat]

/-- Adding 1 carries out of the width exactly from the largest value. -/
theorem toNat_add_one_gt_widthMask (hw : 0 < w) (d : BitVec w) :
    d.toNat + (1#w).toNat > widthMask w ↔ d = BitVec.allOnes w := by
  have hlt := d.isLt
  rw [BitVec.toNat_eq, BitVec.toNat_allOnes, BitVec.toNat_one hw, widthMask]
  omega

/-- Subtracting 1 borrows exactly from 0. -/
theorem toNat_lt_one (hw : 0 < w) (d : BitVec w) : d.toNat < (1#w).toNat ↔ d = 0#w := by
  rw [BitVec.toNat_eq, BitVec.toNat_zero, BitVec.toNat_one hw, Nat.lt_one_iff]

/-- R117: the Carry of an increment. -/
theorem aluIncrement_eq_flagsArith (hw : 0 < w) (d : BitVec w) (s : State) :
    aluIncrement d s = (d + 1#w, flagsArith (d + 1#w).toNat w (decide (d = BitVec.allOnes w)) s) := by
  rw [aluIncrement, aluAdd_eq_flagsArith, decide_eq_decide.mpr (toNat_add_one_gt_widthMask hw d)]

/-- R117: the Carry of a decrement. -/
theorem aluDecrement_eq_flagsArith (hw : 0 < w) (d : BitVec w) (s : State) :
    aluDecrement d s = (d - 1#w, flagsArith (d - 1#w).toNat w (decide (d = 0#w)) s) := by
  rw [aluDecrement, aluSub_eq_flagsArith, decide_eq_decide.mpr (toNat_lt_one hw d)]

theorem aluLogic_eq_flagsArith (res : BitVec w) (s : State) :
    aluLogic res s = (res, flagsArith res.toNat w false s) := rfl

/-- The complement within 8 bits is the exclusive or with the width mask 0xFF (42_alu.md R114). -/
theorem aluNot_eq_flagsArith (d : Byte) (s : State) :
    aluNot d s = (d ^^^ 0xFF#8, flagsArith (d ^^^ 0xFF#8).toNat 8 s.flags.c s) := rfl

theorem aluShl_eq_flagsArith (d : Byte) (s : State) :
    aluShl d s = (d <<< 1, flagsArith (d <<< 1).toNat 8 (d.getLsbD 7) s) := by
  rw [aluShl_eq, flagsArith, ofInt_toNat]

theorem aluShr_eq_flagsArith (d : Byte) (s : State) :
    aluShr d s = (d >>> 1, flagsArith (d >>> 1).toNat 8 (d.getLsbD 0) s) := rfl

/-- The difference that a compare tests, as integers (42_alu.md R118). -/
theorem toNat_sub_eq_emod (x y : BitVec w) : ((x - y).toNat : Int) = ((x.toNat : Int) - y.toNat) % 2 ^ w := by
  rw [← ofInt_sub, BitVec.toNat_ofInt, Int.toNat_of_nonneg (Int.emod_nonneg _ (by positivity))]
  norm_cast

theorem sub_beq_zero (x y : BitVec w) : (x - y == 0#w) = decide (x = y) :=
  decide_eq_decide.mpr sub_eq_zero

theorem msb_sub_eq_decide (x y : BitVec w) :
    (x - y).msb = decide (2 ^ (w - 1) ≤ (((x.toNat : Int) - y.toNat) % 2 ^ w)) := by
  rw [BitVec.msb_eq_decide, ← toNat_sub_eq_emod]
  exact decide_eq_decide.mpr (by norm_cast)

end

/-! ### Instructions that store a value with its flags, and those that compare -/

section
variable {i : Instr} {s : State} {carry : Bool}

theorem computes8_of_exec {r : Reg8} {v : Byte} {x : Byte × State} (hx : x = (v, flagsArith v.toNat 8 carry s))
    (h : exec i s = finish (.done () (State.result8 r x))) : Computes8 s i r v carry := by
  subst hx
  have hframe : State.sameBut (.reg8 r :: aluFlags) s ((flagsArith v.toNat 8 carry s).set8 r v) :=
    State.sameBut_append (State.sameBut_set8 r v s) (State.sameBut_flagsArith _ 8 carry (s.set8 r v))
  exact ⟨_, h, State.completes_countInstruction hframe,
    (State.get8_countInstruction r _).trans (State.get8_set8_same r v _), rfl, flagsArith_flags_z v carry s,
    flagsArith_flags_n v carry s⟩

theorem computes16_of_exec {q : Reg16} {v : Word} {x : Word × State} (hx : x = (v, flagsArith v.toNat 16 carry s))
    (h : exec i s = finish (.done () (State.result16 q x))) : Computes16 s i q v carry := by
  subst hx
  have hframe : State.sameBut (.reg16 q :: aluFlags) s ((flagsArith v.toNat 16 carry s).set16 q v) :=
    State.sameBut_append (State.sameBut_set16 q v s) (State.sameBut_flagsArith _ 16 carry (s.set16 q v))
  exact ⟨_, h, State.completes_countInstruction hframe,
    (State.get16_countInstruction q _).trans (State.get16_set16_same q v _), rfl, flagsArith_flags_z v carry s,
    flagsArith_flags_n v carry s⟩

theorem compares_of_exec {w : Nat} {x y : BitVec w} (h : exec i s = finish (.done () (aluCompare x y s))) :
    Compares s i x y := by
  refine ⟨_, h, State.completes_countInstruction (State.sameBut_flagsArith _ w _ s), ?_⟩
  rw [countInstruction_flags, aluCompare_eq]
  exact ⟨sub_beq_zero x y, rfl, msb_sub_eq_decide x y⟩

/-! ### The operations on one register -/

theorem computes8_of_incReg8 {r : Reg8} (h : exec i s = finish (incReg8 r s)) :
    Computes8 s i r (s.get8 r + 1#8) (decide (s.get8 r = 0xFF#8)) :=
  computes8_of_exec (aluIncrement_eq_flagsArith (by decide) _ s) h

theorem computes8_of_decReg8 {r : Reg8} (h : exec i s = finish (decReg8 r s)) :
    Computes8 s i r (s.get8 r - 1#8) (decide (s.get8 r = 0x00#8)) :=
  computes8_of_exec (aluDecrement_eq_flagsArith (by decide) _ s) h

theorem computes16_of_incReg16 {q : Reg16} (h : exec i s = finish (incReg16 q s)) :
    Computes16 s i q (s.get16 q + 1#16) (decide (s.get16 q = 0xFFFF#16)) :=
  computes16_of_exec (aluIncrement_eq_flagsArith (by decide) _ s) h

theorem computes16_of_decReg16 {q : Reg16} (h : exec i s = finish (decReg16 q s)) :
    Computes16 s i q (s.get16 q - 1#16) (decide (s.get16 q = 0x0000#16)) :=
  computes16_of_exec (aluDecrement_eq_flagsArith (by decide) _ s) h

theorem computes8_of_notReg8 {r : Reg8} (h : exec i s = finish (notReg8 r s)) :
    Computes8 s i r (s.get8 r ^^^ 0xFF#8) s.flags.c := computes8_of_exec (aluNot_eq_flagsArith _ s) h

theorem computes8_of_shlReg8 {r : Reg8} (h : exec i s = finish (shlReg8 r s)) :
    Computes8 s i r (s.get8 r <<< 1) ((s.get8 r).getLsbD 7) := computes8_of_exec (aluShl_eq_flagsArith _ s) h

theorem computes8_of_shrReg8 {r : Reg8} (h : exec i s = finish (shrReg8 r s)) :
    Computes8 s i r (s.get8 r >>> 1) ((s.get8 r).getLsbD 0) := computes8_of_exec (aluShr_eq_flagsArith _ s) h

end

/-! ### Register pairs -/

section
variable {mk : RegCode → RegCode → Instr} {k : Reg8 → Reg8 → State → Effect Unit} {s : State}

/-- R73: the code of a register names it. -/
@[simp] theorem reg8OfCode_codeOf (r : Reg8) : reg8OfCode (codeOf r) = some r := by
  cases r <;> rfl

/-- A register-pair instruction whose fields name registers runs its meaning on them. -/
theorem exec_codeOf (h : ∀ dst src, exec (mk dst src) s = finish (withPair dst src k s)) (x y : Reg8) :
    exec (mk (codeOf x) (codeOf y)) s = finish (k x y s) := by
  rw [h, withPair_valid k s (reg8OfCode_codeOf x) (reg8OfCode_codeOf y)]

/-- R79: the destination field is checked first, then the source field, both before any effect. -/
theorem checksPair_of_exec (h : ∀ dst src, exec (mk dst src) s = finish (withPair dst src k s)) :
    ChecksPair s mk := by
  refine fun dst src => ⟨fun hdst => raises_of_exec ?_, fun hdst hsrc => raises_of_exec ?_⟩
  · rw [h, withPair_dst k s hdst]
  · have hsome : reg8OfCode dst ≠ none := mt reg8OfCode_eq_none.mp (Nat.not_le.mpr (Nat.lt_succ_of_le hdst))
    obtain ⟨x, hx⟩ := Option.ne_none_iff_exists'.mp hsome
    rw [h, withPair_src k s hx hsrc]

end

theorem exec_addReg (s : State) (dst src : RegCode) :
    exec (.addReg dst src) s = finish (withPair dst src addReg8 s) := rfl

theorem exec_subReg (s : State) (dst src : RegCode) :
    exec (.subReg dst src) s = finish (withPair dst src subReg8 s) := rfl

theorem exec_cmpReg (s : State) (dst src : RegCode) :
    exec (.cmpReg dst src) s = finish (withPair dst src cmpReg8 s) := rfl

theorem exec_andReg (s : State) (dst src : RegCode) :
    exec (.andReg dst src) s = finish (withPair dst src andReg8 s) := rfl

theorem exec_orReg (s : State) (dst src : RegCode) :
    exec (.orReg dst src) s = finish (withPair dst src orReg8 s) := rfl

theorem exec_xorReg (s : State) (dst src : RegCode) :
    exec (.xorReg dst src) s = finish (withPair dst src xorReg8 s) := rfl

/-! ### The statements -/

/-- Settles O34: the sum, and the difference with its borrow, of the two registers as they were. -/
theorem addSub8 : Obligations.AddSub8 := fun dst src s =>
  ⟨decode_encode (.addReg (codeOf dst) (codeOf src)),
    computes8_of_exec (aluAdd_eq_flagsArith _ _ s) (exec_codeOf (exec_addReg s) dst src),
    decode_encode (.subReg (codeOf dst) (codeOf src)),
    computes8_of_exec (aluSub_eq_flagsArith _ _ s) (exec_codeOf (exec_subReg s) dst src),
    checksPair_of_exec (exec_addReg s), checksPair_of_exec (exec_subReg s)⟩

/-- Settles O35: each of the seven keeps the flags of a difference and discards its value. -/
theorem compare8 : Obligations.Compare8 := fun x y n s =>
  ⟨⟨decode_encode (.cmpReg (codeOf x) (codeOf y)),
      compares_of_exec (exec_codeOf (exec_cmpReg s) x y),
      checksPair_of_exec (exec_cmpReg s)⟩,
    ⟨decode_encode (.cmpAImm n), compares_of_exec rfl⟩, ⟨decode_encode (.cmpBImm n), compares_of_exec rfl⟩,
    ⟨decode_encode (.cmpCImm n), compares_of_exec rfl⟩, ⟨decode_encode (.cmpDImm n), compares_of_exec rfl⟩,
    ⟨decode_encode (.cmpEImm n), compares_of_exec rfl⟩, ⟨decode_encode (.cmpFImm n), compares_of_exec rfl⟩⟩

/-- Settles O36: Carry is that of adding or subtracting 1. -/
theorem incDec8 : Obligations.IncDec8 := fun _ =>
  ⟨⟨decode_encode .incA, computes8_of_incReg8 rfl⟩, ⟨decode_encode .incB, computes8_of_incReg8 rfl⟩,
    ⟨decode_encode .incC, computes8_of_incReg8 rfl⟩, ⟨decode_encode .incD, computes8_of_incReg8 rfl⟩,
    ⟨decode_encode .incE, computes8_of_incReg8 rfl⟩, ⟨decode_encode .incF, computes8_of_incReg8 rfl⟩,
    ⟨decode_encode .decA, computes8_of_decReg8 rfl⟩, ⟨decode_encode .decB, computes8_of_decReg8 rfl⟩,
    ⟨decode_encode .decC, computes8_of_decReg8 rfl⟩, ⟨decode_encode .decD, computes8_of_decReg8 rfl⟩,
    ⟨decode_encode .decE, computes8_of_decReg8 rfl⟩, ⟨decode_encode .decF, computes8_of_decReg8 rfl⟩⟩

/-- Settles O37: the sums and differences of DA and DB, with the Carry of width 16. -/
theorem addSub16 : Obligations.AddSub16 := fun s =>
  ⟨⟨decode_encode .addDaDb, computes16_of_exec (aluAdd_eq_flagsArith s.da s.db s) rfl⟩,
    ⟨decode_encode .addDbDa, computes16_of_exec (aluAdd_eq_flagsArith s.db s.da s) rfl⟩,
    ⟨decode_encode .subDaDb, computes16_of_exec (aluSub_eq_flagsArith s.da s.db s) rfl⟩,
    ⟨decode_encode .subDbDa, computes16_of_exec (aluSub_eq_flagsArith s.db s.da s) rfl⟩⟩

/-- Settles O38: each of the four keeps the flags of a difference of width 16 and discards its value. -/
theorem compare16 : Obligations.Compare16 := by
  intro lo hi nn s h
  obtain ⟨rfl, rfl⟩ := octets_of_word h
  exact ⟨⟨decode_encode .cmpDaDb, compares_of_exec rfl⟩, ⟨decode_encode .cmpDbDa, compares_of_exec rfl⟩,
    ⟨decode_encode (.cmpDaImm nn), compares_of_exec rfl⟩, ⟨decode_encode (.cmpDbImm nn), compares_of_exec rfl⟩⟩

/-- Settles O39: Carry is that of adding or subtracting 1 at width 16. -/
theorem incDec16 : Obligations.IncDec16 := fun _ =>
  ⟨⟨decode_encode .incDa, computes16_of_incReg16 rfl⟩, ⟨decode_encode .incDb, computes16_of_incReg16 rfl⟩,
    ⟨decode_encode .decDa, computes16_of_decReg16 rfl⟩, ⟨decode_encode .decDb, computes16_of_decReg16 rfl⟩⟩

/-- Settles O40: the primitive of the three takes the result and clears Carry (42_alu.md R113). -/
theorem logic8 : Obligations.Logic8 := fun dst src s =>
  ⟨decode_encode (.andReg (codeOf dst) (codeOf src)),
    computes8_of_exec (aluLogic_eq_flagsArith _ s) (exec_codeOf (exec_andReg s) dst src),
    decode_encode (.orReg (codeOf dst) (codeOf src)),
    computes8_of_exec (aluLogic_eq_flagsArith _ s) (exec_codeOf (exec_orReg s) dst src),
    decode_encode (.xorReg (codeOf dst) (codeOf src)),
    computes8_of_exec (aluLogic_eq_flagsArith _ s) (exec_codeOf (exec_xorReg s) dst src),
    checksPair_of_exec (exec_andReg s), checksPair_of_exec (exec_orReg s),
    checksPair_of_exec (exec_xorReg s)⟩

/-- Settles O41: the primitive takes the Carry that it finds. -/
theorem not8 : Obligations.Not8 := fun _ =>
  ⟨⟨decode_encode .notA, computes8_of_notReg8 rfl⟩, ⟨decode_encode .notB, computes8_of_notReg8 rfl⟩,
    ⟨decode_encode .notC, computes8_of_notReg8 rfl⟩, ⟨decode_encode .notD, computes8_of_notReg8 rfl⟩,
    ⟨decode_encode .notE, computes8_of_notReg8 rfl⟩, ⟨decode_encode .notF, computes8_of_notReg8 rfl⟩⟩

/-- Settles O42: the shifted value, and the bit that left it. -/
theorem shifts8 : Obligations.Shifts8 := fun _ =>
  ⟨⟨decode_encode .shlA, computes8_of_shlReg8 rfl⟩, ⟨decode_encode .shlB, computes8_of_shlReg8 rfl⟩,
    ⟨decode_encode .shlC, computes8_of_shlReg8 rfl⟩, ⟨decode_encode .shlD, computes8_of_shlReg8 rfl⟩,
    ⟨decode_encode .shlE, computes8_of_shlReg8 rfl⟩, ⟨decode_encode .shlF, computes8_of_shlReg8 rfl⟩,
    ⟨decode_encode .shrA, computes8_of_shrReg8 rfl⟩, ⟨decode_encode .shrB, computes8_of_shrReg8 rfl⟩,
    ⟨decode_encode .shrC, computes8_of_shrReg8 rfl⟩, ⟨decode_encode .shrD, computes8_of_shrReg8 rfl⟩,
    ⟨decode_encode .shrE, computes8_of_shrReg8 rfl⟩, ⟨decode_encode .shrF, computes8_of_shrReg8 rfl⟩⟩

end Sys2Proof.Machine
end

section
/-!
Jumps, calls and returns (O20, O43 to O46).

A jump ends in a write of pc or in none (`jumps_of_exec`). CALL ends in a word push, and RET in a load-class write of pc
after a word pop: `pushesWord_of_exec` and `popsWord_of_exec` say what any instruction that ends so does, from what
`push16` and `pop16` answer in each of their three cases. That CALL and then RET returns (O20) follows from what the two
are then known to do, without their meanings.
-/

namespace Sys2Proof.Machine

/-! ### Jumps -/

section
variable {i : Instr} {s : State} {taken : Bool}

theorem jumps_of_exec {target : Word}
    (h : exec i s = finish (.done () (if taken then s.set16 .pc target else s))) : Jumps s i taken target := by
  cases taken with
  | true => exact ⟨_, h, State.completes_countInstruction (State.sameBut_set16 .pc target s), rfl⟩
  | false => exact ⟨_, h, State.completes_countInstruction (State.sameBut_refl _ s), rfl⟩

theorem jumps_of_jumpAbs {a : Word} (h : exec i s = finish (jumpAbs taken a s)) : Jumps s i taken a := jumps_of_exec h

/-- The target as integers names the same word (00_scope.md R9). -/
theorem relativeTarget_eq {d : Byte} {target : Word} (h : (target.toNat : Int) = (s.pc.toNat + d.toInt) % 65536) :
    relativeTarget d s = target :=
  BitVec.eq_of_toNat_eq (Int.ofNat_inj.mp ((relativeTarget_toNat d s).trans h.symm))

theorem jumps_of_jumpRel {d : Byte} {target : Word} (htarget : relativeTarget d s = target)
    (h : exec i s = finish (jumpRel taken d s)) : Jumps s i taken target := jumps_of_exec (htarget ▸ h)

end

/-! ### Frames of the stack primitives -/

theorem State.sameBut_mono {changed changed' : List Loc} {s t : State} (hsub : changed ⊆ changed')
    (h : State.sameBut changed s t) : State.sameBut changed' s t := fun l hl => h l fun hm => hl (hsub hm)

theorem State.sameBut_write (s : State) (a : Nat) (v : Byte) :
    State.sameBut [.byte a] s { s with mem := s.mem.write a v } :=
  State.sameBut_setMem fun b hb => Memory.read_write_other s.mem v fun hba => hb (by simp [hba])

/-- The memory a word push leaves: the high octet at SP, the low octet below it (44_stores_stack.md R166). -/
def Memory.pushOctets (m : Memory) (sp v : Word) : Memory :=
  Memory.write (Memory.write m sp.toNat (highByte v)) (sp - 1#16).toNat (lowByte v)

theorem toNat_sub_one_ne (a : Word) : a.toNat ≠ (a - 1#16).toNat := by bv_omega

@[simp] theorem Memory.read_pushOctets_high (m : Memory) (sp v : Word) :
    Memory.read (m.pushOctets sp v) sp.toNat = highByte v := by
  rw [Memory.pushOctets, Memory.read_write_other _ _ (toNat_sub_one_ne sp), Memory.read_write_same]

@[simp] theorem Memory.read_pushOctets_low (m : Memory) (sp v : Word) :
    Memory.read (m.pushOctets sp v) (sp - 1#16).toNat = lowByte v := Memory.read_write_same _ _ _

/-- What a word push leaves where its two bytes lie in memory. -/
def State.pushed (v : Word) (s : State) : State := { s with sp := s.sp - 2#16, mem := s.mem.pushOctets s.sp v }

theorem push16_pushed {s : State} (v : Word) (h : s.sp.toNat < s.config.memSize)
    (h1 : (s.sp - 1#16).toNat < s.config.memSize) : push16 v s = .done () (s.pushed v) := push16_in v h h1

theorem State.sameBut_pushed (v : Word) (s : State) :
    State.sameBut [.byte s.sp.toNat, .byte (s.sp - 1#16).toNat, .reg16 .sp] s (s.pushed v) :=
  State.sameBut_append (State.sameBut_append (s.sameBut_write s.sp.toNat _) (State.sameBut_write _ _ _))
    (State.sameBut_set16 .sp (s.sp - 2#16) { s with mem := s.mem.pushOctets s.sp v })

/-! ### Instructions that push or pop a word -/

section
variable {i : Instr} {s : State}

/-- A word push, and then pc. -/
theorem pushesWord_of_exec {v jump : Word}
    (h : exec i s = finish ((push16 v s).andThen fun _ t => .done () (t.set16 .pc jump))) :
    PushesWord s i v jump := by
  refine ⟨fun hin hin1 => ?_, fun hout => raises_of_exec ?_, fun hin hout1 => ?_⟩
  · have hframe := State.sameBut_append (s.sameBut_pushed v) (State.sameBut_set16 .pc jump (s.pushed v))
    rw [push16_pushed v hin hin1] at h
    refine ⟨_, h, State.completes_countInstruction hframe, ?_, ?_, rfl, rfl⟩
    · exact (congrArg _ (s.mem.read_pushOctets_high s.sp v)).trans (highByte_toNat v)
    · exact (congrArg _ (s.mem.read_pushOctets_low s.sp v)).trans (lowByte_toNat v)
  · rw [h, push16_out v hout, Effect.andThen_raise]
  · have hframe := State.sameBut_append (s.sameBut_write s.sp.toNat (highByte v))
      (State.sameBut_set16 .sp (s.sp - 1#16) _)
    rw [push16_edge v hin hout1] at h
    refine ⟨_, h, State.raises_takeFault _ hframe, ?_, rfl⟩
    exact (congrArg _ (s.mem.read_write_same s.sp.toNat (highByte v))).trans (highByte_toNat v)

/-- A word pop, and then a load-class write whose frame and Zero flag are known. -/
theorem popsWord_of_exec {q : Reg16} {changed : List Loc} (hq : q ≠ .sp) (h : exec i s = finish (popReg16 q s))
    (hframe : ∀ v t, State.sameBut (.reg16 q :: changed) t (t.put16 q v))
    (hzero : .flagZ ∈ changed → ∀ v t, (State.put16 q v t).flags.z = decide (v.toNat = 0)) :
    PopsWord s i q changed := by
  rw [popReg16] at h
  refine ⟨fun hin hin1 => ?_, fun hout => ?_, fun hin hout1 => ?_⟩
  · have hpop := State.sameBut_append (State.sameBut_set16 .sp (s.sp + 2#16) s) (hframe (concat
      (Memory.read s.mem (s.sp + 2#16).toNat) (Memory.read s.mem (s.sp + 1#16).toNat)) _)
    rw [pop16_in hin hin1] at h
    refine ⟨_, h, State.completes_countInstruction (State.sameBut_mono (List.Perm.swap _ _ _).subset hpop)
      (State.put16_instructionsExecuted _ _ _) (State.put16_cyclesExecuted _ _ _), ?_, ?_, fun hz => ?_⟩
    · exact State.get16_put16_other (q := .sp) _ _ hq.symm
    · rw [State.get16_countInstruction, State.get16_put16_same, concat_toNat, Nat.add_comm, Nat.mul_comm]
    · rw [State.get16_countInstruction, State.get16_put16_same, countInstruction_flags, hzero hz]
  · rw [pop16_out hout] at h
    exact ⟨_, h, State.raises_takeFault _ (State.sameBut_set16 .sp _ s), rfl⟩
  · rw [pop16_edge hin hout1] at h
    exact ⟨_, h, State.raises_takeFault _ (State.sameBut_set16 .sp _ s), rfl⟩

end

/-! ### CALL and RET -/

theorem call_pushesWord (a : Word) (s : State) : PushesWord s (.call a) s.pc a := pushesWord_of_exec rfl

theorem ret_popsWord (s : State) : PopsWord s .ret .pc [] :=
  popsWord_of_exec (by decide) rfl (fun v t => State.sameBut_set16 .pc v t) nofun

/-- SP two bytes below, and then one up: the address of the second byte pushed is that of the first byte popped. -/
theorem sub_two_add_one (sp : Word) : sp - 2#16 + 1#16 = sp - 1#16 := by bv_omega

/-! ### The statements -/

/-- Settles O20: RET finds the two octets of the return address where CALL has left them, and SP two below. -/
theorem callThenRetReturns : Obligations.CallThenRetReturns := by
  intro s a pc hin hin1
  obtain ⟨hcall, _, _⟩ := call_pushesWord a s
  obtain ⟨t, ht, ⟨_, _, hframe⟩, hhigh, hlow, hsp, hpc⟩ := hcall hin hin1
  have hconfig : t.config = s.config := hframe .config (by simp)
  have hsp1 : t.sp + 1#16 = s.sp - 1#16 := by rw [hsp, sub_two_add_one]
  have hsp2 : t.sp + 2#16 = s.sp := by rw [hsp, BitVec.sub_add_cancel]
  obtain ⟨hret, _, _⟩ := ret_popsWord (t.set16 .pc pc)
  simp only [State.set16_sp, State.set16_config, State.set16_mem, reduceCtorEq, if_false, hsp1, hsp2, hconfig, hlow,
    hhigh] at hret
  obtain ⟨u, hu, _, husp, hupc, _⟩ := hret hin1 hin
  exact ⟨t, u, ht, hpc, hu, BitVec.eq_of_toNat_eq (hupc.trans (Nat.mod_add_div _ _)), husp⟩

/-- Settles O43: each of the seven writes pc, or nothing, by its own condition. -/
theorem absoluteJumps : Obligations.AbsoluteJumps := by
  intro lo hi a s h
  obtain ⟨rfl, rfl⟩ := octets_of_word h
  exact ⟨⟨decode_encode (.jmp a), jumps_of_jumpAbs rfl⟩, ⟨decode_encode (.jz a), jumps_of_jumpAbs rfl⟩,
    ⟨decode_encode (.jnz a), jumps_of_jumpAbs rfl⟩, ⟨decode_encode (.jc a), jumps_of_jumpAbs rfl⟩,
    ⟨decode_encode (.jnc a), jumps_of_jumpAbs rfl⟩, ⟨decode_encode (.jn a), jumps_of_jumpAbs rfl⟩,
    ⟨decode_encode (.jnn a), jumps_of_jumpAbs rfl⟩⟩

/-- Settles O44: the sum modulo 2^16 names the target, and each of the four jumps there by its own condition. -/
theorem relativeJumps : Obligations.RelativeJumps := by
  intro d target s h
  have htarget := relativeTarget_eq h
  exact ⟨⟨decode_encode (.jr d), jumps_of_jumpRel htarget rfl⟩,
    ⟨decode_encode (.jrz d), jumps_of_jumpRel htarget rfl⟩,
    ⟨decode_encode (.jrnz d), jumps_of_jumpRel htarget rfl⟩,
    ⟨decode_encode (.jrc d), jumps_of_jumpRel htarget rfl⟩⟩

/-- Settles O45: what CALL pushes is the pc it runs with, the address after itself (40_control.md R91). -/
theorem callPushesTheReturnAddress : Obligations.CallPushesTheReturnAddress := by
  intro lo hi a s h
  obtain ⟨rfl, rfl⟩ := octets_of_word h
  exact ⟨decode_encode (.call a), call_pushesWord a s⟩

/-- Settles O46: the pop into pc writes no flag. -/
theorem retPopsPc : Obligations.RetPopsPc := fun s => ⟨decode_encode .ret, ret_popsWord s⟩

end Sys2Proof.Machine
end

section
/-!
Stores and the stack (O19, O47 to O52).

A mix of values on the stack is a list of octets, the first at SP and each next one an address lower (`stackOctets`):
`pushAll_eq` says that pushing the values writes those octets, and `popAll_of_holds` that popping them in reverse order
gives the values back from any memory that holds the octets. That the octets are at different addresses, so that none
overwrites another, is `Memory.holds_pushBytes`. The instructions are read as in the sections before: one lemma for each
primitive that an instruction ends in.
-/

namespace Sys2Proof.Machine

/-! ### Sequences of effects -/

theorem Effect.andThen_assoc {α β γ : Type} (r : Effect α) (k : α → State → Effect β) (l : β → State → Effect γ) :
    (r.andThen k).andThen l = r.andThen fun v s => (k v s).andThen l := by
  cases r <;> rfl

theorem Effect.andThen_pure {α : Type} (r : Effect α) : (r.andThen fun v s => .done v s) = r := by
  cases r <;> rfl

/-! ### Octets at falling addresses -/

/-- Store octets at falling addresses modulo 2^16, as pushes do (44_stores_stack.md R162, R164). -/
def Memory.pushBytes : Memory → Word → List Byte → Memory
  | m, _, [] => m
  | m, sp, v :: vs => Memory.pushBytes (m.write sp.toNat v) (sp - 1#16) vs

/-- The octets stand at falling addresses from `sp`. -/
def Memory.Holds (m : Memory) : Word → List Byte → Prop
  | _, [] => True
  | sp, v :: vs => m.read sp.toNat = v ∧ Memory.Holds m (sp - 1#16) vs

/-- The addresses of `n` octets pushed from `sp` on lie in memory. -/
def StackFits (memSize : Nat) (sp : Word) (n : Nat) : Prop :=
  ∀ k < n, (sp - BitVec.ofNat 16 k).toNat < memSize

theorem sub_ofNat_add (sp : Word) (m n : Nat) :
    sp - BitVec.ofNat 16 (m + n) = sp - BitVec.ofNat 16 m - BitVec.ofNat 16 n := by
  rw [BitVec.ofNat_add, sub_sub]

theorem sub_ofNat_succ (sp : Word) (n : Nat) :
    sp - BitVec.ofNat 16 (n + 1) = sp - 1#16 - BitVec.ofNat 16 n := by
  rw [Nat.add_comm, sub_ofNat_add]

/-- An address is not met again within 2^16 steps down from it. -/
theorem toNat_ne_sub_one_sub (sp : Word) {k : Nat} (h : k < 65535) :
    sp.toNat ≠ (sp - 1#16 - BitVec.ofNat 16 k).toNat := by
  bv_omega

theorem StackFits.head {memSize n : Nat} {sp : Word} (h : StackFits memSize sp (n + 1)) : sp.toNat < memSize := by
  simpa using h 0 n.succ_pos

theorem StackFits.left {memSize m n : Nat} {sp : Word} (h : StackFits memSize sp (m + n)) : StackFits memSize sp m :=
  fun k hk => h k (Nat.lt_add_right n hk)

theorem StackFits.right {memSize m n : Nat} {sp : Word} (h : StackFits memSize sp (m + n)) :
    StackFits memSize (sp - BitVec.ofNat 16 m) n := fun k hk => by
  rw [← sub_ofNat_add]
  exact h (m + k) (Nat.add_lt_add_left hk m)

theorem Memory.pushBytes_append (m : Memory) (sp : Word) (vs ws : List Byte) :
    m.pushBytes sp (vs ++ ws) = (m.pushBytes sp vs).pushBytes (sp - BitVec.ofNat 16 vs.length) ws := by
  induction vs generalizing m sp with
  | nil => simp [Memory.pushBytes]
  | cons v vs ih =>
    rw [List.cons_append, Memory.pushBytes, ih, List.length_cons, sub_ofNat_succ sp vs.length, Memory.pushBytes]

theorem Memory.holds_append {m : Memory} {sp : Word} {vs ws : List Byte} :
    m.Holds sp (vs ++ ws) ↔ m.Holds sp vs ∧ m.Holds (sp - BitVec.ofNat 16 vs.length) ws := by
  induction vs generalizing sp with
  | nil => simp [Memory.Holds]
  | cons v vs ih =>
    rw [List.cons_append, Memory.Holds, Memory.Holds, ih, List.length_cons, sub_ofNat_succ sp vs.length, and_assoc]

theorem Memory.read_pushBytes_outside (m : Memory) {sp : Word} {b : Nat} (vs : List Byte)
    (h : ∀ k < vs.length, b ≠ (sp - BitVec.ofNat 16 k).toNat) : (m.pushBytes sp vs).read b = m.read b := by
  induction vs generalizing m sp with
  | nil => rfl
  | cons v vs ih =>
    have hhead : b ≠ sp.toNat := by simpa using h 0 vs.length.succ_pos
    have htail : ∀ k < vs.length, b ≠ (sp - 1#16 - BitVec.ofNat 16 k).toNat := fun k hk => by
      rw [← sub_ofNat_succ]
      exact h (k + 1) (Nat.succ_lt_succ hk)
    rw [Memory.pushBytes, ih _ htail, Memory.read_write_other _ _ hhead]

/-- At most 2^16 octets are at different addresses, so the later ones leave the earlier ones as they are. -/
theorem Memory.holds_pushBytes (m : Memory) (sp : Word) {vs : List Byte} (h : vs.length ≤ 65536) :
    (m.pushBytes sp vs).Holds sp vs := by
  induction vs generalizing m sp with
  | nil => trivial
  | cons v vs ih =>
    rw [List.length_cons] at h
    refine ⟨?_, ih _ _ (Nat.le_of_succ_le h)⟩
    rw [Memory.pushBytes, Memory.read_pushBytes_outside _ _ fun k hk => toNat_ne_sub_one_sub sp (by omega),
      Memory.read_write_same]

/-! ### Values as octets -/

/-- The octets of a value in the order of their pushes, the high octet of a word first (44_stores_stack.md R166). -/
def StackItem.octets : StackItem → List Byte
  | .octet v => [v]
  | .word v => [highByte v, lowByte v]

/-- The octets of a mix of values, the first pushed first. -/
def stackOctets (items : List StackItem) : List Byte := items.flatMap StackItem.octets

theorem StackItem.length_octets (item : StackItem) : item.octets.length = item.size := by
  cases item <;> rfl

theorem stackOctets_cons (item : StackItem) (items : List StackItem) :
    stackOctets (item :: items) = item.octets ++ stackOctets items := List.flatMap_cons

theorem length_stackOctets (items : List StackItem) :
    (stackOctets items).length = (items.map StackItem.size).sum := by
  rw [stackOctets, List.length_flatMap]
  simp only [StackItem.length_octets]

/-! ### Pushes of any mix -/

/-- What pushing octets leaves where they fit. -/
def State.pushedOctets (vs : List Byte) (s : State) : State :=
  { s with sp := s.sp - BitVec.ofNat 16 vs.length, mem := s.mem.pushBytes s.sp vs }

theorem State.pushedOctets_append (vs ws : List Byte) (s : State) :
    s.pushedOctets (vs ++ ws) = (s.pushedOctets vs).pushedOctets ws := by
  simp only [State.pushedOctets, List.length_append, sub_ofNat_add, Memory.pushBytes_append]

theorem pushAll_cons (item : StackItem) (items : List StackItem) (s : State) :
    pushAll (item :: items) s = (pushAll [item] s).andThen fun _ t => pushAll items t := by
  cases item <;> simp only [pushAll, Effect.andThen_assoc, Effect.andThen_done]

theorem pushAll_singleton (item : StackItem) {s : State} (h : StackFits s.config.memSize s.sp item.octets.length) :
    pushAll [item] s = .done () (s.pushedOctets item.octets) := by
  cases item with
  | octet v =>
    rw [pushAll, push8_in v h.head]
    rfl
  | word v =>
    rw [pushAll, push16_in v h.head (h 1 Nat.one_lt_two)]
    rfl

theorem pushAll_eq {items : List StackItem} {s : State}
    (h : StackFits s.config.memSize s.sp (stackOctets items).length) :
    pushAll items s = .done () (s.pushedOctets (stackOctets items)) := by
  induction items generalizing s with
  | nil => simp [pushAll, stackOctets, State.pushedOctets, Memory.pushBytes]
  | cons item items ih =>
    rw [stackOctets_cons, List.length_append] at h
    rw [pushAll_cons, pushAll_singleton item h.left, Effect.andThen_done, ih h.right, stackOctets_cons,
      State.pushedOctets_append]

/-! ### Pops of any mix -/

/-- The state from which popping `n` octets leads back to `s`. -/
def State.below (n : Nat) (s : State) : State := { s with sp := s.sp - BitVec.ofNat 16 n }

theorem State.below_add (m n : Nat) (s : State) : s.below (m + n) = (s.below m).below n := by
  simp only [State.below, sub_ofNat_add]

theorem popAll_append (xs ys : List StackItem) (s : State) :
    popAll (xs ++ ys) s =
      (popAll xs s).andThen fun vs t => (popAll ys t).andThen fun ws u => .done (vs ++ ws) u := by
  induction xs generalizing s with
  | nil => exact (Effect.andThen_pure _).symm
  | cons x xs ih =>
    cases x <;> simp only [List.cons_append, popAll, ih, Effect.andThen_assoc, Effect.andThen_done]

theorem popAll_singleton {item : StackItem} {s : State} (hholds : s.mem.Holds s.sp item.octets)
    (hfits : StackFits s.config.memSize s.sp item.octets.length) :
    popAll [item] (s.below item.octets.length) = .done [item] s := by
  cases item with
  | octet v =>
    obtain ⟨hv, _⟩ := hholds
    have hsp : (s.below 1).sp + 1#16 = s.sp := BitVec.sub_add_cancel _ _
    have hpop : pop8 (s.below 1) = .done v s := by
      rw [pop8_in (hsp.symm ▸ hfits.head), hsp, ← hv]
      rfl
    exact congrArg (Effect.andThen · _) hpop
  | word v =>
    obtain ⟨hhigh, hlow, _⟩ := hholds
    have hsp1 : (s.below 2).sp + 1#16 = s.sp - 1#16 := sub_two_add_one s.sp
    have hsp2 : (s.below 2).sp + 2#16 = s.sp := BitVec.sub_add_cancel _ _
    have hpop : pop16 (s.below 2) = .done v s := by
      rw [pop16_in (hsp1.symm ▸ hfits 1 Nat.one_lt_two) (hsp2.symm ▸ hfits.head), hsp1, hsp2,
        ← concat_highByte_lowByte v, ← hhigh, ← hlow]
      rfl
    exact congrArg (Effect.andThen · _) hpop

/-- Whatever else the memory holds, the octets of the values give the values back. -/
theorem popAll_of_holds {items : List StackItem} {s : State} (hholds : s.mem.Holds s.sp (stackOctets items))
    (hfits : StackFits s.config.memSize s.sp (stackOctets items).length) :
    popAll items.reverse (s.below (stackOctets items).length) = .done items.reverse s := by
  induction items generalizing s with
  | nil => simp [popAll, stackOctets, State.below]
  | cons item items ih =>
    rw [stackOctets_cons] at hholds hfits ⊢
    rw [List.length_append] at hfits ⊢
    obtain ⟨hitem, hitems⟩ := Memory.holds_append.mp hholds
    rw [List.reverse_cons, popAll_append, State.below_add, ih hitems hfits.right, Effect.andThen_done,
      popAll_singleton hitem hfits.left, Effect.andThen_done]

/-- Settles O19: the pushes leave the octets of the values in memory, and the pops find them there. -/
theorem stackRestoresEveryValue : Obligations.StackRestoresEveryValue := by
  intro items s n hn hmax hfits
  rw [← length_stackOctets] at hn
  subst hn
  have hpop := popAll_of_holds (s := { s with mem := s.mem.pushBytes s.sp (stackOctets items) })
    (s.mem.holds_pushBytes s.sp hmax) hfits
  exact ⟨_, _, pushAll_eq hfits, rfl, hpop, rfl⟩

/-! ### Instructions that store, push or pop -/

section
variable {i : Instr} {s : State}

theorem storesByteAt_of_exec {a : Nat} {v : Byte} (h : exec i s = finish (writeByte a v s)) :
    StoresByteAt s i a v := by
  refine ⟨fun hin => ?_, fun hout => raises_of_exec ?_⟩
  · rw [writeByte_in v hin] at h
    exact ⟨_, h, State.completes_countInstruction (s.sameBut_write a v), s.mem.read_write_same a v⟩
  · rw [h, writeByte_out v hout]

/-- What a word write leaves where its second byte faults: the free value decides whether the first was written
(20_memory.md R55). -/
theorem State.partialWord_cases (s : State) (m : Memory) :
    partialWord s { s with mem := m } = { s with draws := s.draws + 1 } ∨
      partialWord s { s with mem := m } = { s with mem := m, draws := s.draws + 1 } := by
  rw [partialWord_eq]
  split
  · exact .inr rfl
  · exact .inl rfl

theorem State.sameBut_draws (s : State) (n : Nat) : State.sameBut [.draws] s { s with draws := n } := by
  intro l hl
  cases l with
  | reg8 r => cases r <;> rfl
  | reg16 q => cases q <;> rfl
  | draws => exact absurd (List.mem_singleton_self _) hl
  | _ => rfl

theorem storesWordAt_of_exec {a v : Word} (h : exec i s = finish (writeWord a.toNat v s)) : StoresWordAt s i a v := by
  refine ⟨fun hin => ?_, fun hout => raises_of_exec ?_, fun hin hout1 => ?_⟩
  · obtain ⟨t, hwrite, _, hlow, hhigh, hframe⟩ := wordRoundTrip a.toNat v s hin
    rw [hwrite] at h
    exact ⟨_, h, State.completes_countInstruction hframe (hframe .instructionsExecuted (by simp))
      (hframe .cyclesExecuted (by simp)), hlow, hhigh⟩
  · rw [h, writeWord_out v hout]
  · rw [writeWord_edge v hin hout1] at h
    refine ⟨_, h, ?_⟩
    rcases s.partialWord_cases (s.mem.write a.toNat (lowByte v)) with hold | hnew
    · rw [hold]
      exact ⟨State.raises_takeFault _ (State.sameBut_mono (by simp) (s.sameBut_draws _)), .inl rfl⟩
    · rw [hnew]
      exact ⟨State.raises_takeFault _ (State.sameBut_append (s.sameBut_write _ _) (State.sameBut_draws _ _)),
        .inr ((congrArg _ (s.mem.read_write_same _ _)).trans (lowByte_toNat v))⟩

theorem pushesOctet_of_exec {v : Byte} (h : exec i s = finish (push8 v s)) : PushesOctet s i v := by
  refine ⟨fun hin => ?_, fun hout => raises_of_exec ?_⟩
  · rw [push8_in v hin] at h
    exact ⟨_, h, State.completes_countInstruction (State.sameBut_append (s.sameBut_write s.sp.toNat v)
      (State.sameBut_set16 .sp (s.sp - 1#16) _)), s.mem.read_write_same _ v, rfl⟩
  · rw [h, push8_out v hout]

/-- To write back a register that an effect keeps changes nothing. -/
theorem Effect.andThen_set16_kept {q : Reg16} {r : Effect Unit} (h : r.Keeps16 q s) :
    (r.andThen fun _ t => .done () (t.set16 q (s.get16 q))) = r := by
  cases r with
  | done u t =>
    have hq : t.get16 q = s.get16 q := h
    rw [Effect.andThen_done, ← hq]
    cases q <;> rfl
  | raise k t => rfl

/-- A word push and no more, the pc as it was. -/
theorem pushesWord_of_push16 {v : Word} (h : exec i s = finish (push16 v s)) : PushesWord s i v s.pc :=
  pushesWord_of_exec (h.trans (congrArg finish (Effect.andThen_set16_kept (push16_keeps16 (by decide) v)).symm))

theorem popsOctet_of_exec {r : Reg8} (h : exec i s = finish (popReg8 r s)) : PopsOctet s i r := by
  rw [popReg8] at h
  refine ⟨fun hin => ?_, fun hout => ?_⟩
  · have hframe := State.sameBut_append (State.sameBut_set16 .sp (s.sp + 1#16) s)
      (State.sameBut_put8 r (Memory.read s.mem (s.sp + 1#16).toNat) _)
    rw [pop8_in hin] at h
    refine ⟨_, h, State.completes_countInstruction (State.sameBut_mono (by simp) hframe), rfl, ?_, ?_⟩
    · rw [State.get8_countInstruction, State.get8_put8_same]
    · rw [State.get8_countInstruction, State.get8_put8_same, countInstruction_flags]
      exact setZ_flags_z _ _
  · rw [pop8_out hout] at h
    exact ⟨_, h, State.raises_takeFault _ (State.sameBut_set16 .sp _ s), rfl⟩

theorem popsPair_of_exec {q : Reg16} (hq : q = .da ∨ q = .db) (h : exec i s = finish (popReg16 q s)) :
    PopsWord s i q [.flagZ] := by
  refine popsWord_of_exec ?_ h (fun v t => State.sameBut_put16_pair hq v t) fun _ v t => ?_
  · rcases hq with rfl | rfl <;> decide
  · rw [State.put16_eq_setZ hq, setZ_flags_z]

end

end Sys2Proof.Machine

/-! ### The statements

Four of them have the names of the model's stack primitives, so they stand in a namespace of their own.
-/

namespace Sys2Proof.StoresStack

open Sys2Proof.Machine

/-- Settles O47: each of the six stores its own register. -/
theorem store8 : Obligations.Store8 := by
  intro lo hi a s h
  obtain ⟨rfl, rfl⟩ := octets_of_word h
  exact ⟨⟨decode_encode (.staAbs a), storesByteAt_of_exec rfl⟩, ⟨decode_encode (.stbAbs a), storesByteAt_of_exec rfl⟩,
    ⟨decode_encode (.stcAbs a), storesByteAt_of_exec rfl⟩, ⟨decode_encode (.stdAbs a), storesByteAt_of_exec rfl⟩,
    ⟨decode_encode (.steAbs a), storesByteAt_of_exec rfl⟩, ⟨decode_encode (.stfAbs a), storesByteAt_of_exec rfl⟩⟩

/-- Settles O48: the two store DA and DB by the word write of 20_memory.md R55. -/
theorem store16 : Obligations.Store16 := by
  intro lo hi a s h
  obtain ⟨rfl, rfl⟩ := octets_of_word h
  exact ⟨⟨decode_encode (.stdaAbs a), storesWordAt_of_exec rfl⟩, ⟨decode_encode (.stdbAbs a), storesWordAt_of_exec rfl⟩⟩

/-- Settles O49: each of the six pushes its own register. -/
theorem push8 : Obligations.Push8 := fun _ =>
  ⟨⟨decode_encode .pushA, pushesOctet_of_exec rfl⟩, ⟨decode_encode .pushB, pushesOctet_of_exec rfl⟩,
    ⟨decode_encode .pushC, pushesOctet_of_exec rfl⟩, ⟨decode_encode .pushD, pushesOctet_of_exec rfl⟩,
    ⟨decode_encode .pushE, pushesOctet_of_exec rfl⟩, ⟨decode_encode .pushF, pushesOctet_of_exec rfl⟩⟩

/-- Settles O50: each of the six pops into its own register, a load-class write. -/
theorem pop8 : Obligations.Pop8 := fun _ =>
  ⟨⟨decode_encode .popA, popsOctet_of_exec rfl⟩, ⟨decode_encode .popB, popsOctet_of_exec rfl⟩,
    ⟨decode_encode .popC, popsOctet_of_exec rfl⟩, ⟨decode_encode .popD, popsOctet_of_exec rfl⟩,
    ⟨decode_encode .popE, popsOctet_of_exec rfl⟩, ⟨decode_encode .popF, popsOctet_of_exec rfl⟩⟩

/-- Settles O51: the word push of CALL, without the jump. -/
theorem push16 : Obligations.Push16 := fun _ =>
  ⟨⟨decode_encode .pushDa, pushesWord_of_push16 rfl⟩, ⟨decode_encode .pushDb, pushesWord_of_push16 rfl⟩⟩

/-- Settles O52: the word pop of RET, into a register whose write tests Zero. -/
theorem pop16 : Obligations.Pop16 := fun _ =>
  ⟨⟨decode_encode .popDa, popsPair_of_exec (by decide) rfl⟩, ⟨decode_encode .popDb, popsPair_of_exec (by decide) rfl⟩⟩

end Sys2Proof.StoresStack
end

section
/-!
Indexed addressing (O53 to O55).

Every indexed access is a load or a store of A at an effective address, and then a write of the pointer by a function of
its value: adding 1, subtracting 1, or the identity for the forms that do not move it. `loadsIndexed_of_exec` and
`storesIndexed_of_exec` say what an instruction that ends so does; where the access faults the write never runs, so the
pointer is as it was (45_indexed.md R175).
-/

namespace Sys2Proof.Machine

/-! ### The access of A -/

theorem loadA_in {ea : Nat} {s : State} (h : ea < s.config.memSize) :
    loadA ea s = .done () (s.put8 .a (Memory.read s.mem ea)) := by
  rw [loadA, readByte_in h, Effect.andThen_done]

theorem loadA_out {ea : Nat} {s : State} (h : s.config.memSize ≤ ea) :
    loadA ea s = .raise (.addressOutOfRange ea) s := by
  rw [loadA, readByte_out h, Effect.andThen_raise]

theorem storeA_in {ea : Nat} {s : State} (h : ea < s.config.memSize) :
    storeA ea s = .done () { s with mem := Memory.write s.mem ea s.a } := writeByte_in s.a h

theorem storeA_out {ea : Nat} {s : State} (h : s.config.memSize ≤ ea) :
    storeA ea s = .raise (.addressOutOfRange ea) s := writeByte_out s.a h

/-! ### The update of the pointer -/

/-- What follows an indexed access: the pointer becomes `move` of what it was (45_indexed.md R175). -/
def movePointer (p : Reg16) (move : Word → Word) (s : State) : Effect Unit := .done () (s.set16 p (move (s.get16 p)))

/-- The forms that leave the pointer as it was move it by the identity. -/
theorem movePointer_id (p : Reg16) (s : State) : movePointer p id s = .done () s := by
  cases p <;> rfl

theorem Effect.andThen_movePointer_id (r : Effect Unit) (p : Reg16) :
    (r.andThen fun _ t => movePointer p id t) = r := by
  simp only [movePointer_id]
  exact Effect.andThen_pure r

/-- ADD p,#n adds the octet as an unsigned number (45_indexed.md R186). -/
theorem add_zext16 (v : Word) (n : Byte) : v + zext16 n = BitVec.ofNat 16 (v.toNat + n.toNat) := by
  rw [BitVec.ofNat_add, BitVec.ofNat_toNat, BitVec.setWidth_eq, BitVec.ofNat_toNat]
  rfl

/-! ### Instructions that access A and move the pointer -/

section
variable {i : Instr} {s : State} {p : Reg16} {ea : Nat}

theorem loadsIndexed_of_exec (move : Word → Word)
    (h : exec i s = finish ((loadA ea s).andThen fun _ t => movePointer p move t)) :
    LoadsIndexed s i p ea (move (s.get16 p)) := by
  refine ⟨fun hin => ?_, fun hout => raises_of_exec ?_⟩
  · have hframe := State.sameBut_append (State.sameBut_put8 .a (Memory.read s.mem ea) s)
      (State.sameBut_set16 p (move (s.get16 p)) _)
    rw [loadA_in hin, Effect.andThen_done, movePointer, State.get16_put8] at h
    refine ⟨_, h, State.completes_countInstruction hframe, rfl, setZ_flags_z _ _, ?_⟩
    rw [State.get16_countInstruction, State.get16_set16_same]
  · rw [h, loadA_out hout, Effect.andThen_raise]

theorem storesIndexed_of_exec (move : Word → Word)
    (h : exec i s = finish ((storeA ea s).andThen fun _ t => movePointer p move t)) :
    StoresIndexed s i p ea (move (s.get16 p)) := by
  refine ⟨fun hin => ?_, fun hout => raises_of_exec ?_⟩
  · have hframe := State.sameBut_append (s.sameBut_write ea s.a) (State.sameBut_set16 p (move (s.get16 p)) _)
    rw [storeA_in hin, Effect.andThen_done, movePointer, State.get16_mem] at h
    refine ⟨_, h, State.completes_countInstruction hframe, s.mem.read_write_same ea s.a, ?_⟩
    rw [State.get16_countInstruction, State.get16_set16_same]
  · rw [h, storeA_out hout, Effect.andThen_raise]

theorem loadsIndexed_of_loadA (h : exec i s = finish (loadA ea s)) : LoadsIndexed s i p ea (s.get16 p) :=
  loadsIndexed_of_exec id (h.trans (congrArg finish (Effect.andThen_movePointer_id _ p).symm))

theorem storesIndexed_of_storeA (h : exec i s = finish (storeA ea s)) : StoresIndexed s i p ea (s.get16 p) :=
  storesIndexed_of_exec id (h.trans (congrArg finish (Effect.andThen_movePointer_id _ p).symm))

end

/-! ### The statements -/

/-- Settles O53: each of the eight loads A at its own effective address, and then moves its own pointer or none. -/
theorem loadIndexed : Obligations.LoadIndexed := fun d s =>
  ⟨⟨decode_encode .ldaIdx, loadsIndexed_of_loadA rfl⟩, ⟨decode_encode .ldaIdy, loadsIndexed_of_loadA rfl⟩,
    displacedAddr_toNat .idx d s, ⟨decode_encode (.ldaIdxDisp d), loadsIndexed_of_loadA rfl⟩,
    displacedAddr_toNat .idy d s, ⟨decode_encode (.ldaIdyDisp d), loadsIndexed_of_loadA rfl⟩,
    ⟨decode_encode .ldaIdxInc, loadsIndexed_of_exec (· + 1#16) rfl⟩,
    ⟨decode_encode .ldaIdyInc, loadsIndexed_of_exec (· + 1#16) rfl⟩,
    ⟨decode_encode .ldaIdxDec, loadsIndexed_of_exec (· - 1#16) rfl⟩,
    ⟨decode_encode .ldaIdyDec, loadsIndexed_of_exec (· - 1#16) rfl⟩⟩

/-- Settles O54: each of the eight stores A at its own effective address, and then moves its own pointer or none. -/
theorem storeIndexed : Obligations.StoreIndexed := fun d s =>
  ⟨⟨decode_encode .staIdx, storesIndexed_of_storeA rfl⟩, ⟨decode_encode .staIdy, storesIndexed_of_storeA rfl⟩,
    displacedAddr_toNat .idx d s, ⟨decode_encode (.staIdxDisp d), storesIndexed_of_storeA rfl⟩,
    displacedAddr_toNat .idy d s, ⟨decode_encode (.staIdyDisp d), storesIndexed_of_storeA rfl⟩,
    ⟨decode_encode .staIdxInc, storesIndexed_of_exec (· + 1#16) rfl⟩,
    ⟨decode_encode .staIdyInc, storesIndexed_of_exec (· + 1#16) rfl⟩,
    ⟨decode_encode .staIdxDec, storesIndexed_of_exec (· - 1#16) rfl⟩,
    ⟨decode_encode .staIdyDec, storesIndexed_of_exec (· - 1#16) rfl⟩, rfl, rfl⟩

/-- Settles O55: each of the six ends in a write of its own pointer, which writes no flag. -/
theorem pointerArithmetic : Obligations.PointerArithmetic := by
  intro n s
  rw [← add_zext16, ← add_zext16]
  exact ⟨⟨decode_encode .incIdx, loadsPointer_of_exec (by decide) rfl⟩,
    ⟨decode_encode .incIdy, loadsPointer_of_exec (by decide) rfl⟩,
    ⟨decode_encode .decIdx, loadsPointer_of_exec (by decide) rfl⟩,
    ⟨decode_encode .decIdy, loadsPointer_of_exec (by decide) rfl⟩,
    ⟨decode_encode (.addIdxImm n), loadsPointer_of_exec (by decide) rfl⟩,
    ⟨decode_encode (.addIdyImm n), loadsPointer_of_exec (by decide) rfl⟩⟩

end Sys2Proof.Machine
end

section
/-!
Moves and swaps (O56 to O59).

A move is a load-class write of the source as it was, so the lemmas of the loads say what it does. A swap writes two
registers, the second over the first where both are the same: `State.get8_swap` and `State.get16_swap` say that each
holds what the other held even then, since the value written is its own.
-/

namespace Sys2Proof.Machine

/-! ### The values a swap leaves -/

theorem State.get8_swap (x y : Reg8) (s : State) :
    ((s.set8 x (s.get8 y)).set8 y (s.get8 x)).get8 x = s.get8 y := by
  by_cases h : x = y
  · rw [h, State.get8_set8_same]
  · rw [State.get8_set8_other _ _ h, State.get8_set8_same]

theorem State.get16_swap (x y : Reg16) (s : State) :
    ((s.set16 x (s.get16 y)).set16 y (s.get16 x)).get16 x = s.get16 y := by
  by_cases h : x = y
  · rw [h, State.get16_set16_same]
  · rw [State.get16_set16_other _ _ h, State.get16_set16_same]

/-! ### Instructions that swap -/

section
variable {i : Instr} {s : State}

theorem swaps8_of_exec {x y : Reg8} (h : exec i s = finish (swapReg8 x y s)) : Swaps8 s i x y :=
  ⟨_, h,
    State.completes_countInstruction
      (State.sameBut_append (State.sameBut_set8 x (s.get8 y) s) (State.sameBut_set8 y (s.get8 x) _)),
    (State.get8_countInstruction x _).trans (State.get8_swap x y s),
    (State.get8_countInstruction y _).trans (State.get8_set8_same y _ _)⟩

theorem swaps16_of_exec {x y : Reg16} (h : exec i s = finish (swapReg16 x y s)) : Swaps16 s i x y :=
  ⟨_, h,
    State.completes_countInstruction
      (State.sameBut_append (State.sameBut_set16 x (s.get16 y) s) (State.sameBut_set16 y (s.get16 x) _)),
    (State.get16_countInstruction x _).trans (State.get16_swap x y s),
    (State.get16_countInstruction y _).trans (State.get16_set16_same y _ _)⟩

end

theorem exec_movReg (s : State) (dst src : RegCode) :
    exec (.movReg dst src) s = finish (withPair dst src movReg8 s) := rfl

theorem exec_swapReg (s : State) (dst src : RegCode) :
    exec (.swapReg dst src) s = finish (withPair dst src swapReg8 s) := rfl

/-! ### The statements -/

/-- Settles O56: a load-class write of the source, and an exchange, where both fields name registers. -/
theorem moveSwap8 : Obligations.MoveSwap8 := fun dst src s =>
  ⟨decode_encode (.movReg (codeOf dst) (codeOf src)), loads8_of_exec (exec_codeOf (exec_movReg s) dst src),
    decode_encode (.swapReg (codeOf dst) (codeOf src)), swaps8_of_exec (exec_codeOf (exec_swapReg s) dst src),
    checksPair_of_exec (exec_movReg s), checksPair_of_exec (exec_swapReg s)⟩

/-- Settles O57: each of the six ends in the load-class write of DA or DB, which tests Zero. -/
theorem moveIntoPair : Obligations.MoveIntoPair := fun _ =>
  ⟨⟨decode_encode .movDaDb, loadsPair_of_exec (by decide) rfl⟩,
    ⟨decode_encode .movDbDa, loadsPair_of_exec (by decide) rfl⟩,
    ⟨decode_encode .movDaIdx, loadsPair_of_exec (by decide) rfl⟩,
    ⟨decode_encode .movDaIdy, loadsPair_of_exec (by decide) rfl⟩,
    ⟨decode_encode .movDbIdx, loadsPair_of_exec (by decide) rfl⟩,
    ⟨decode_encode .movDbIdy, loadsPair_of_exec (by decide) rfl⟩⟩

/-- Settles O58: each of the six ends in the write of its own pointer, which writes no flag. -/
theorem moveIntoPointer : Obligations.MoveIntoPointer := fun _ =>
  ⟨⟨decode_encode .movIdxDa, loadsPointer_of_exec (by decide) rfl⟩,
    ⟨decode_encode .movIdyDa, loadsPointer_of_exec (by decide) rfl⟩,
    ⟨decode_encode .movIdxDb, loadsPointer_of_exec (by decide) rfl⟩,
    ⟨decode_encode .movIdyDb, loadsPointer_of_exec (by decide) rfl⟩,
    ⟨decode_encode .movIdxIdy, loadsPointer_of_exec (by decide) rfl⟩,
    ⟨decode_encode .movIdyIdx, loadsPointer_of_exec (by decide) rfl⟩⟩

/-- Settles O59: the two exchange their registers and write nothing else. -/
theorem swap16 : Obligations.Swap16 := fun _ =>
  ⟨⟨decode_encode .swapDaDb, swaps16_of_exec rfl⟩, ⟨decode_encode .swapIdxIdy, swaps16_of_exec rfl⟩⟩

end Sys2Proof.Machine
end

section
/-!
What the host's own operations answer (O24, O25, O26).

Each access is said once inside memory and once outside it (`hostAddr_in`, `hostAddr_out`); an identifier names a
register or none.
-/

namespace Sys2Proof.Machine

/-! ### Start and Stop -/

theorem start_of_no_fault {s : State} (mode : ClockMode) (h : s.fault = none) :
    start mode s = { s with running := true, mode := some mode } := by rw [start, h]

/-- D19: a Faulted core is not started. -/
theorem start_of_fault {s : State} (mode : ClockMode) (h : s.fault ≠ none) : start mode s = s := by
  obtain ⟨k, hk⟩ := Option.ne_none_iff_exists'.mp h
  rw [start, hk]

theorem State.sameBut_started (s : State) (mode : ClockMode) :
    State.sameBut [.running, .mode] s { s with running := true, mode := some mode } := by
  intro l hl
  cases l with
  | reg8 r => cases r <;> rfl
  | reg16 p => cases p <;> rfl
  | running | mode => simp at hl
  | _ => rfl

/-- Settles O24: Start by whether a fault is recorded; Stop writes a flag that it does not read. -/
theorem startAndStop : Obligations.StartAndStop := by
  intro mode s
  refine ⟨fun hnone => ?_, start_of_fault mode, rfl, s.sameBut_halt, rfl⟩
  rw [start_of_no_fault mode hnone]
  exact ⟨rfl, rfl, s.sameBut_started mode⟩

/-! ### Register accessors -/

section
variable {id : String} {v : Nat} {s t : State}

theorem reg8OfId_eq_none (h : id ∉ ["A", "B", "C", "D", "E", "F"]) : reg8OfId id = none := by
  simp only [List.mem_cons, List.not_mem_nil, or_false, not_or] at h
  simp [reg8OfId, h]

theorem reg16OfId_eq_none (h : id ∉ ["DA", "DB", "PC", "SP", "IDX", "IDY"]) : reg16OfId id = none := by
  simp only [List.mem_cons, List.not_mem_nil, or_false, not_or] at h
  simp [reg16OfId, h]

theorem getRegister_of_id {r : Reg8} (h : reg8OfId id = some r) : getRegister id s = .ok (s.get8 r) := by
  rw [getRegister, h]

theorem setRegister_of_id {r : Reg8} (h : reg8OfId id = some r) :
    setRegister id v s = .ok (s.put8 r (BitVec.ofNat 8 v)) := by rw [setRegister, h]

theorem getRegister16_of_id {q : Reg16} (h : reg16OfId id = some q) : getRegister16 id s = .ok (s.get16 q) := by
  rw [getRegister16, h]

theorem setRegister16_of_id {q : Reg16} (h : reg16OfId id = some q) :
    setRegister16 id v s = .ok (s.put16 q (BitVec.ofNat 16 v)) := by rw [setRegister16, h]

theorem getRegister_unknown (h : reg8OfId id = none) : getRegister id s = .error (.invalidRegisterIdentifier id) := by
  rw [getRegister, h]

theorem setRegister_unknown (h : reg8OfId id = none) :
    setRegister id v s = .error (.invalidRegisterIdentifier id) := by rw [setRegister, h]

theorem getRegister16_unknown (h : reg16OfId id = none) :
    getRegister16 id s = .error (.invalidRegisterIdentifier id) := by rw [getRegister16, h]

theorem setRegister16_unknown (h : reg16OfId id = none) :
    setRegister16 id v s = .error (.invalidRegisterIdentifier id) := by rw [setRegister16, h]

/-- A set that succeeds is a load-class write of one register (60_exceptions.md R227). -/
theorem setRegister_ok (h : setRegister id v s = .ok t) : ∃ r, t = s.put8 r (BitVec.ofNat 8 v) := by
  cases hid : reg8OfId id with
  | none => cases (setRegister_unknown hid).symm.trans h
  | some r => exact ⟨r, (Except.ok.inj ((setRegister_of_id hid).symm.trans h)).symm⟩

theorem setRegister16_ok (h : setRegister16 id v s = .ok t) : ∃ q, t = s.put16 q (BitVec.ofNat 16 v) := by
  cases hid : reg16OfId id with
  | none => cases (setRegister16_unknown hid).symm.trans h
  | some q => exact ⟨q, (Except.ok.inj ((setRegister16_of_id hid).symm.trans h)).symm⟩

/-- 10_state.md R27: Zero after the value was narrowed to its width. -/
theorem setZ_ofNat_flags_z (w v : Nat) (s : State) :
    (setZ (BitVec.ofNat w v) s).flags.z = decide (v % 2 ^ w = 0) := by rw [setZ_flags_z, BitVec.toNat_ofNat]

end

/-- Settles O25: a set is a load-class write of the register its identifier names, and the classes differ in Zero. -/
theorem hostRegisterAccessors : Obligations.HostRegisterAccessors := by
  intro v s
  refine ⟨fun id r hid => ?_, fun id q hid => ?_, fun id q hid => ?_, fun id hid => ?_, fun id hid => ?_⟩
  · have hr : reg8OfId id = some r :=
      (by decide : ∀ p ∈ [("A", Reg8.a), ("B", .b), ("C", .c), ("D", .d), ("E", .e), ("F", .f)],
        reg8OfId p.1 = some p.2) _ hid
    refine ⟨getRegister_of_id hr, _, setRegister_of_id hr, State.sameBut_put8 r _ s, ?_, setZ_ofNat_flags_z 8 v _⟩
    rw [State.get8_put8_same, BitVec.toNat_ofNat]
  · obtain ⟨hr, hq⟩ : reg16OfId id = some q ∧ (q = .da ∨ q = .db) :=
      (by decide : ∀ p ∈ [("DA", Reg16.da), ("DB", .db)],
        reg16OfId p.1 = some p.2 ∧ (p.2 = .da ∨ p.2 = .db)) _ hid
    refine ⟨getRegister16_of_id hr, _, setRegister16_of_id hr, State.sameBut_put16_pair hq _ s, ?_, ?_⟩
    · rw [State.get16_put16_same, BitVec.toNat_ofNat]
    · rw [State.put16_eq_setZ hq, setZ_ofNat_flags_z]
  · obtain ⟨hr, hq⟩ : reg16OfId id = some q ∧ q ≠ .da ∧ q ≠ .db :=
      (by decide : ∀ p ∈ [("PC", Reg16.pc), ("SP", .sp), ("IDX", .idx), ("IDY", .idy)],
        reg16OfId p.1 = some p.2 ∧ p.2 ≠ .da ∧ p.2 ≠ .db) _ hid
    refine ⟨getRegister16_of_id hr, _, setRegister16_of_id hr, ?_, ?_⟩
    · rw [State.put16_address hq]
      exact State.sameBut_set16 q _ s
    · rw [State.get16_put16_same, BitVec.toNat_ofNat]
  · have hr := reg8OfId_eq_none hid
    exact ⟨getRegister_unknown hr, setRegister_unknown hr⟩
  · have hr := reg16OfId_eq_none hid
    exact ⟨getRegister16_unknown hr, setRegister16_unknown hr⟩

/-! ### Memory accessors -/

section
variable {a : Int} {s t : State}

theorem hostAddr_in (h0 : 0 ≤ a) (h : a < s.config.memSize) : hostAddr a s = .ok a.toNat := if_pos ⟨h0, h⟩

theorem hostAddr_out (h : a < 0 ∨ s.config.memSize ≤ a) : hostAddr a s = .error (.addressOutOfRange a) :=
  if_neg (by omega)

theorem hostReadByte_in (h0 : 0 ≤ a) (h : a < s.config.memSize) :
    hostReadByte a s = .ok (Memory.read s.mem a.toNat) := by
  rw [hostReadByte, hostAddr_in h0 h]
  rfl

theorem hostReadByte_out (h : a < 0 ∨ s.config.memSize ≤ a) : hostReadByte a s = .error (.addressOutOfRange a) := by
  rw [hostReadByte, hostAddr_out h]
  rfl

theorem hostWriteByte_in (v : Byte) (h0 : 0 ≤ a) (h : a < s.config.memSize) :
    hostWriteByte a v s = .ok { s with mem := Memory.write s.mem a.toNat v } := by
  rw [hostWriteByte, hostAddr_in h0 h]
  rfl

theorem hostWriteByte_out (v : Byte) (h : a < 0 ∨ s.config.memSize ≤ a) :
    hostWriteByte a v s = .error (.addressOutOfRange a) := by
  rw [hostWriteByte, hostAddr_out h]
  rfl

/-- R54: a word read inside memory; the address after `a` is the next natural number. -/
theorem hostReadWord_in (h0 : 0 ≤ a) (h : a + 1 < s.config.memSize) :
    hostReadWord a s = .ok (concat (Memory.read s.mem (a.toNat + 1)) (Memory.read s.mem a.toNat)) := by
  rw [hostReadWord, hostReadByte_in h0 (by omega), hostReadByte_in (by omega) h, Int.toNat_add h0 Int.one_nonneg]
  rfl

/-- R228: a word read joins the octets a word write left. -/
theorem hostReadWord_writeOctets {v : Word} {m : Memory} (hm : s.mem = m.writeOctets a.toNat v) (h0 : 0 ≤ a)
    (h : a + 1 < s.config.memSize) : hostReadWord a s = .ok v := by
  rw [hostReadWord_in h0 h, hm, Memory.read_writeOctets_high, Memory.read_writeOctets_low, concat_highByte_lowByte]

theorem hostReadWord_out (h : a < 0 ∨ s.config.memSize ≤ a) : hostReadWord a s = .error (.addressOutOfRange a) := by
  rw [hostReadWord, hostReadByte_out h]
  rfl

theorem hostReadWord_edge (h0 : 0 ≤ a) (h : a + 1 = s.config.memSize) :
    hostReadWord a s = .error (.addressOutOfRange (a + 1)) := by
  rw [hostReadWord, hostReadByte_in h0 (by omega), hostReadByte_out (a := a + 1) (by omega)]
  rfl

theorem hostWriteWord_in (v : Word) (h0 : 0 ≤ a) (h : a + 1 < s.config.memSize) :
    hostWriteWord a v s = .ok { s with mem := s.mem.writeOctets a.toNat v } := by
  rw [hostWriteWord, hostAddr_in h0 (by omega), hostAddr_in (by omega) h, Int.toNat_add h0 Int.one_nonneg]
  rfl

theorem hostWriteWord_out (v : Word) (h : a < 0 ∨ s.config.memSize ≤ a) :
    hostWriteWord a v s = .error (.addressOutOfRange a) := by
  rw [hostWriteWord, hostAddr_out h]
  rfl

/-- R228: the high byte is checked before either byte is written. -/
theorem hostWriteWord_edge (v : Word) (h0 : 0 ≤ a) (h : a + 1 = s.config.memSize) :
    hostWriteWord a v s = .error (.addressOutOfRange (a + 1)) := by
  rw [hostWriteWord, hostAddr_in h0 (by omega), hostAddr_out (a := a + 1) (by omega)]
  rfl

/-- A byte write that succeeds was inside memory. -/
theorem hostWriteByte_ok {v : Byte} (h : hostWriteByte a v s = .ok t) :
    ∃ n < s.config.memSize, t = { s with mem := Memory.write s.mem n v } := by
  by_cases hin : 0 ≤ a ∧ a < s.config.memSize
  · obtain ⟨h0, hlt⟩ := hin
    exact ⟨a.toNat, by omega, (Except.ok.inj ((hostWriteByte_in v h0 hlt).symm.trans h)).symm⟩
  · cases (hostWriteByte_out v (by omega)).symm.trans h

/-- A word write that succeeds was inside memory with both bytes. -/
theorem hostWriteWord_ok {v : Word} (h : hostWriteWord a v s = .ok t) :
    ∃ n, n + 1 < s.config.memSize ∧ t = { s with mem := s.mem.writeOctets n v } := by
  by_cases hin : 0 ≤ a ∧ a < s.config.memSize
  · obtain ⟨h0, hlt⟩ := hin
    rcases Int.lt_or_eq_of_le (Int.add_one_le_iff.mpr hlt) with hnext | hedge
    · exact ⟨a.toNat, by omega, (Except.ok.inj ((hostWriteWord_in v h0 hnext).symm.trans h)).symm⟩
    · cases (hostWriteWord_edge v h0 hedge).symm.trans h
  · cases (hostWriteWord_out v (by omega)).symm.trans h

end

/-- The frame of a word write is its two bytes. -/
theorem State.sameBut_writeOctets (s : State) (a : Nat) (v : Word) :
    State.sameBut [.byte a, .byte (a + 1)] s { s with mem := s.mem.writeOctets a v } :=
  State.sameBut_append (s.sameBut_write a (lowByte v)) (State.sameBut_write _ (a + 1) (highByte v))

/-- Settles O26: the accesses inside memory, those that fail at `a`, and the words whose high byte alone is outside. -/
theorem hostMemoryAccess : Obligations.HostMemoryAccess := by
  intro a v x s
  refine ⟨fun h0 h => ?_, fun h => ?_, fun h0 h => ?_, fun h0 h => ?_⟩
  · exact ⟨hostReadByte_in h0 h, _, hostWriteByte_in v h0 h, Memory.read_write_same _ _ _, s.sameBut_write _ v⟩
  · exact ⟨hostReadByte_out h, hostWriteByte_out v h, hostReadWord_out h, hostWriteWord_out x h⟩
  · refine ⟨_, hostWriteWord_in x h0 h, ?_, ?_, s.sameBut_writeOctets _ x⟩
    · exact hostReadWord_writeOctets rfl h0 h
    · rw [Memory.read_writeOctets_low, lowByte_toNat]
  · exact ⟨hostReadWord_edge h0 h, hostWriteWord_edge x h0 h⟩

end Sys2Proof.Machine
end

section
/-!
What a step can answer (O11).

Every instruction but SYS answers a next state (`exec_next_or_sys`), and a SYS answers one or is refused. What a fetch
gave was decoded from the octets at pc (`decodeBy_of_fetchInstr`), which places the SYS that was refused.
-/

namespace Sys2Proof.Machine

/-! ### Outcomes -/

/-- Every instruction but SYS ends as `finish` does: those that access memory or check a register-pair byte in either
way, the others completed. -/
theorem exec_next_or_sys (i : Instr) (s : State) : (∃ t, exec i s = .next t) ∨ ∃ n, i = .sys n := by
  cases i with
  | sys n => exact .inr ⟨n, rfl⟩
  | ldaAbs | ldbAbs | ldcAbs | lddAbs | ldeAbs | ldfAbs | lddaAbs | lddbAbs | ldixAbs | ldiyAbs
  | staAbs | stbAbs | stcAbs | stdAbs | steAbs | stfAbs | stdaAbs | stdbAbs
  | pushA | pushB | pushC | pushD | pushE | pushF | pushDa | pushDb
  | popA | popB | popC | popD | popE | popF | popDa | popDb | call | ret
  | addReg | subReg | cmpReg | andReg | orReg | xorReg | movReg | swapReg
  | ldaIdx | ldaIdy | ldaIdxDisp | ldaIdyDisp | ldaIdxInc | ldaIdyInc | ldaIdxDec | ldaIdyDec
  | staIdx | staIdy | staIdxDisp | staIdyDisp | staIdxInc | staIdyInc | staIdxDec | staIdyDec =>
    exact .inl (finish_next _)
  | _ => exact .inl ⟨_, rfl⟩

/-- R94: a SYS is refused where no handler serves it, in the state it runs in; else it answers a next state. -/
theorem execSys_next_or_refused (n : Byte) (s : State) :
    (∃ t, execSys n s = .next t) ∨
      (execSys n s = .refused (.sysUnmodelled n s) ∧ ∀ h, s.sysHandler = some h → h.reply n s.arch = .refuses) := by
  cases hs : s.sysHandler with
  | none => exact .inr ⟨execSys_none hs, nofun⟩
  | some hd =>
    rw [execSys_some hs]
    cases hr : hd.reply n s.arch with
    | completes u => exact .inl ⟨_, sysWith_completes _ hr⟩
    | raises k u => exact .inl ⟨_, sysWith_raises _ hr⟩
    | refuses =>
      refine .inr ⟨sysWith_refuses _ hr, fun h hh => ?_⟩
      rw [← Option.some.inj hh]
      exact hr

/-- A step answers a next state, or it has fetched a SYS that no handler serves. -/
theorem step_next_or_refused (s : State) :
    (∃ t, step s = .next t) ∨ ∃ n t, fetchInstr s = .done (.sys n) t ∧ step s = .refused (.sysUnmodelled n t) ∧
      ∀ h, t.sysHandler = some h → h.reply n t.arch = .refuses := by
  cases hrun : s.running with
  | false => exact .inl ⟨s, step_of_stopped hrun⟩
  | true =>
    cases hf : fetchInstr s with
    | raise k t => exact .inl ⟨_, step_of_raise hrun hf⟩
    | done i t =>
      rw [step_of_done hrun hf]
      rcases exec_next_or_sys i t with hnext | ⟨n, rfl⟩
      · exact .inl hnext
      · exact (execSys_next_or_refused n t).imp_right fun ⟨hrefused, hreply⟩ => ⟨n, t, rfl, hrefused, hreply⟩

/-- R204: a fault is a state the core enters, never an outcome (log entry 7). -/
theorem step_ne_fault (s : State) (k : Fault) : step s ≠ .fault k := by
  rcases step_next_or_refused s with ⟨t, hstep⟩ | ⟨n, t, _, hstep, _⟩ <;> simp [hstep]

/-! ### What was fetched -/

theorem Effect.done_of_andThen {α β : Type} {r : Effect α} {k : α → State → Effect β} {w : β} {u : State}
    (h : r.andThen k = .done w u) : ∃ v t, r = .done v t ∧ k v t = .done w u := by
  cases r with
  | done v t => exact ⟨v, t, rfl, h⟩
  | raise f t => cases h

section
variable {s t : State}

theorem fetch8_done_octet (k : Nat) {v : Byte} (h : fetch8 (s.set16 .pc (s.pc + BitVec.ofNat 16 k)) = .done v t) :
    v = s.octetAt k ∧ t = s.set16 .pc (s.pc + BitVec.ofNat 16 (k + 1)) := by
  obtain ⟨hin, _, _⟩ := fetch8_done h
  cases (fetch8_octet k hin).symm.trans h
  exact ⟨rfl, rfl⟩

/-- The operand octets fetched behind an opcode are what its row reads as the instruction, and pc has moved past
them. -/
theorem reads_of_fetchOperands {row : OpcodeRow} {i : Instr}
    (h : fetchOperands row (s.set16 .pc (s.pc + 1#16)) = .done i t) :
    ∃ operands, row.Reads operands i ∧ operands = (List.range operands.length).map (fun k => s.octetAt (k + 1)) ∧
      t = s.set16 .pc (s.pc + BitVec.ofNat 16 (operands.length + 1)) := by
  cases row with
  | f0 j =>
    cases h
    exact ⟨[], .f0 i, rfl, rfl⟩
  | f1 mk =>
    obtain ⟨n, _, hfetch, hdone⟩ := Effect.done_of_andThen h
    obtain ⟨rfl, rfl⟩ := fetch8_done_octet 1 hfetch
    cases hdone
    exact ⟨[s.octetAt 1], .f1 mk _, rfl, rfl⟩
  | f2 mk =>
    obtain ⟨rr, _, hfetch, hdone⟩ := Effect.done_of_andThen h
    obtain ⟨rfl, rfl⟩ := fetch8_done_octet 1 hfetch
    cases hdone
    exact ⟨[s.octetAt 1], .f2_octet mk _, rfl, rfl⟩
  | f3 mk =>
    obtain ⟨nn, _, hword, hdone⟩ := Effect.done_of_andThen h
    obtain ⟨lo, _, hlow, hword⟩ := Effect.done_of_andThen hword
    obtain ⟨rfl, rfl⟩ := fetch8_done_octet 1 hlow
    obtain ⟨hi, _, hhigh, hword⟩ := Effect.done_of_andThen hword
    obtain ⟨rfl, rfl⟩ := fetch8_done_octet 2 hhigh
    cases hword
    cases hdone
    exact ⟨[s.octetAt 1, s.octetAt 2], .f3_octets mk _ _, rfl, rfl⟩

/-- The octets an instruction was fetched from decode to it, and pc has moved past them (40_control.md R90). -/
theorem decodeBy_of_fetchInstr {i : Instr} (h : fetchInstr s = .done i t) :
    decodeBy s.config.opcodeMap ((List.range i.format.octets).map s.octetAt) = .ok (i, []) ∧
      t = s.set16 .pc (s.pc + BitVec.ofNat 16 i.format.octets) := by
  rcases Nat.lt_or_ge s.pc.toNat s.config.memSize with hin | hout
  · cases hrow : rowOf s.config.opcodeMap (s.octetAt 0) with
    | none => cases (fetchInstr_unassigned hin hrow).symm.trans h
    | some row =>
      rw [fetchInstr_assigned hin hrow] at h
      obtain ⟨operands, hi, hoctets, ht⟩ := reads_of_fetchOperands h
      rw [octets_of_reads hrow hi]
      refine ⟨?_, ht⟩
      rw [List.range_succ_eq_map, List.map_cons, List.map_map, ← List.append_nil (_ :: _)]
      exact decodeBy_of_reads [] hrow (hoctets ▸ hi)
  · cases (fetchInstr_out hout).symm.trans h

end

/-- The service number of a decoded SYS is its second octet, under any OPCODE_MAP. -/
theorem eq_of_decodeBy_sys {map : Option OpcodeNumbering} {op m n : Byte}
    (h : decodeBy map [op, m] = .ok (.sys n, [])) : n = m := by
  obtain ⟨op', operands, row, hoctets, hrow, hi⟩ := reads_of_decodeBy h
  obtain ⟨op'', hrow'⟩ := opcodeMap_of_rowOf hrow
  have hencode : [0x02, n] = op'' :: operands := encode_of_reads hrow' hi
  obtain ⟨_, rfl⟩ := List.cons.inj hencode
  obtain ⟨_, hm⟩ := List.cons.inj hoctets
  exact (List.cons.inj hm).1.symm

/-- Settles O11: a step that does not answer a next state has fetched a SYS, from the two octets at pc. -/
theorem onlySysStopsTheModel : Obligations.OnlySysStopsTheModel := by
  refine fun s => ⟨step_ne_fault s, fun r hr => ?_⟩
  rcases step_next_or_refused s with ⟨t, hstep⟩ | ⟨n, t, hf, hstep, hreply⟩
  · cases hstep.symm.trans hr
  · obtain ⟨hdecode, rfl⟩ := decodeBy_of_fetchInstr hf
    obtain rfl : n = s.octetAt 1 := eq_of_decodeBy_sys hdecode
    refine ⟨(Host.Outcome.refused.inj (hstep.symm.trans hr)).symm, hdecode, fun hmap => ?_, hreply⟩
    have hencode := encodeReadsBackDecode _ _ _ (hmap ▸ hdecode : decode [s.octetAt 0, s.octetAt 1] = _)
    exact (List.cons.inj hencode).1.symm

end Sys2Proof.Machine
end

section
/-!
Host operations and host runs (O10, O12, O60).

`HostOp.Leads` says once what the core becomes under each host operation that takes effect (60_exceptions.md R217).
The invariant, and the record of a Faulted core, are then kept case by case.
-/

namespace Sys2Proof.Machine

/-! ### What an operation that takes effect does -/

/-- The states a host operation leads to from `s`. -/
inductive HostOp.Leads (s : State) : HostOp → State → Prop where
  | reset : Leads s .reset (hostReset s)
  | loadProgram {bytes : List Byte} {origin : Nat} (h : origin + bytes.length ≤ s.config.memSize) :
      Leads s (.loadProgram bytes origin) { s with mem := Memory.writeBytes s.mem origin bytes }
  | clear : Leads s .clear (clearMemory s)
  | start {mode : ClockMode} (h : s.fault = none) :
      Leads s (.start mode) { s with running := true, mode := some mode }
  | startFaulted {mode : ClockMode} (h : s.fault ≠ none) : Leads s (.start mode) s
  | stop : Leads s .stop { s with running := false }
  | step {t : State} (h : Machine.step s = .next t) : Leads s .step t
  | setRegister {id : String} {v : Nat} (r : Reg8) : Leads s (.setRegister id v) (s.put8 r (BitVec.ofNat 8 v))
  | setRegister16 {id : String} {v : Nat} (q : Reg16) :
      Leads s (.setRegister16 id v) (s.put16 q (BitVec.ofNat 16 v))
  | writeByte {a : Int} {v : Byte} {n : Nat} (h : n < s.config.memSize) :
      Leads s (.writeByte a v) { s with mem := Memory.write s.mem n v }
  | writeWord {a : Int} {v : Word} {n : Nat} (h : n + 1 < s.config.memSize) :
      Leads s (.writeWord a v) { s with mem := s.mem.writeOctets n v }

theorem HostReply.ofExcept_eq_done {r : Except HostError State} {t : State} (h : ofExcept r = .done t) :
    r = .ok t := by
  cases r with
  | ok u => exact congrArg Except.ok (HostReply.done.inj h)
  | error e => cases h

theorem loadProgram_ok {bytes : List Byte} {origin : Nat} {s t : State} (h : loadProgram bytes s origin = .ok t) :
    origin + bytes.length ≤ s.config.memSize ∧ t = { s with mem := Memory.writeBytes s.mem origin bytes } := by
  rcases Nat.lt_or_ge s.config.memSize (origin + bytes.length) with hlarge | hfits
  · cases (loadProgram_tooLarge hlarge).symm.trans h
  · exact ⟨hfits, (Except.ok.inj ((loadProgram_fits hfits).symm.trans h)).symm⟩

theorem HostOp.leads_of_hostApply {op : HostOp} {s t : State} (h : hostApply op s = .done t) : op.Leads s t := by
  cases op with
  | reset =>
    obtain rfl := HostReply.done.inj h
    exact .reset
  | loadProgram bytes origin =>
    obtain ⟨hfits, rfl⟩ := loadProgram_ok (HostReply.ofExcept_eq_done h)
    exact .loadProgram hfits
  | clear =>
    obtain rfl := HostReply.done.inj h
    exact .clear
  | start mode =>
    obtain rfl := HostReply.done.inj h
    by_cases hnone : s.fault = none
    · rw [start_of_no_fault mode hnone]
      exact .start hnone
    · rw [start_of_fault mode hnone]
      exact .startFaulted hnone
  | stop =>
    obtain rfl := HostReply.done.inj h
    exact .stop
  | step =>
    simp only [hostApply, hostStep] at h
    cases hstep : Machine.step s with
    | next u =>
      rw [hstep] at h
      obtain rfl := HostReply.done.inj h
      exact .step hstep
    | fault k => exact absurd hstep (step_ne_fault s k)
    | refused r =>
      rw [hstep] at h
      cases h
  | setRegister id v =>
    obtain ⟨r, rfl⟩ := setRegister_ok (HostReply.ofExcept_eq_done h)
    exact .setRegister r
  | setRegister16 id v =>
    obtain ⟨q, rfl⟩ := setRegister16_ok (HostReply.ofExcept_eq_done h)
    exact .setRegister16 q
  | writeByte a v =>
    obtain ⟨n, hn, rfl⟩ := hostWriteByte_ok (HostReply.ofExcept_eq_done h)
    exact .writeByte hn
  | writeWord a v =>
    obtain ⟨n, hn, rfl⟩ := hostWriteWord_ok (HostReply.ofExcept_eq_done h)
    exact .writeWord hn

/-! ### The invariant -/

section
variable {s t : State} {op : HostOp}

theorem State.Inv.writeOctets (h : s.Inv) {a : Nat} (v : Word) (ha : a + 1 < s.config.memSize) :
    State.Inv { s with mem := s.mem.writeOctets a v } :=
  (h.writeMem (lowByte v) (Nat.lt_of_succ_lt ha)).writeMem (s := { s with mem := _ }) (highByte v) ha

/-- A core with no fault recorded may run (60_exceptions.md R222). -/
theorem State.Inv.started (h : s.Inv) (mode : ClockMode) (hnone : s.fault = none) :
    State.Inv { s with running := true, mode := some mode } :=
  { h with fault_stops := fun hfault => absurd hnone hfault }

theorem HostOp.Leads.keepsInv (h : s.Inv) (hop : op.Leads s t) : t.Inv := by
  cases hop with
  | reset => exact hostReset_inv h.config_wf h.mem_wf h.mem_inRange
  | loadProgram hfits =>
    exact h.setMem (Memory.wf_writeBytes _ _ h.mem_wf) (Memory.inRange_writeBytes hfits h.mem_inRange)
  | clear => exact h.setMem (Memory.wf_filled _) rfl
  | start hnone => exact h.started _ hnone
  | startFaulted _ => exact h
  | stop => exact h.halt
  | step hstep => exact step_keepsInv h t hstep
  | setRegister r => exact h.put8 r _
  | setRegister16 q => exact h.put16 q _
  | writeByte hn => exact h.writeMem _ hn
  | writeWord hn => exact h.writeOctets _ hn

end

/-- Settles O60: each operation that takes effect leads to a state with the invariant. -/
theorem hostOperationKeepsInvariant : Obligations.HostOperationKeepsInvariant :=
  fun _ _ _ hs happly => (HostOp.leads_of_hostApply happly).keepsInv hs

/-! ### Host runs -/

/-- Construction takes any launch memory to its normal form (log entry 17). -/
theorem construct_inv {config : Config} (launch : Memory) (handler : Option SysHandler) (h : config.wf = true) :
    (construct config launch handler).Inv :=
  hostReset_inv h (Memory.wf_normal _ launch) (Memory.inRange_normal _ launch)

/-- A run of host operations keeps the invariant, by induction on the operations. -/
theorem boundaries_inv {ops : List HostOp} {s : State} (h : s.Inv) : ∀ t ∈ boundaries ops s, t.Inv := by
  induction ops generalizing s with
  | nil => exact List.forall_mem_singleton.mpr h
  | cons op ops ih =>
    rw [boundaries]
    cases happly : hostApply op s with
    | done u => exact List.forall_mem_cons.mpr ⟨h, ih (hostOperationKeepsInvariant s u op h happly)⟩
    | failed e => exact List.forall_mem_cons.mpr ⟨h, ih h⟩
    | refused r => exact List.forall_mem_singleton.mpr h

/-- Settles O10: construction makes the invariant, and every operation of the run keeps it. -/
theorem everyHostRunKeepsInvariant : Obligations.EveryHostRunKeepsInvariant :=
  fun _ launch handler _ hconfig => boundaries_inv (construct_inv launch handler hconfig)

/-! ### The faulted state -/

/-- Stepping and starting do nothing to a Faulted core, Stop finds it stopped, and the other operations do not write
the run flag or the record. -/
theorem HostOp.Leads.keepsFaulted {s t : State} {op : HostOp} (hs : s.faulted) (hreset : op ≠ .reset)
    (hop : op.Leads s t) : t.faulted ∧ t.fault = s.fault := by
  obtain ⟨hstopped, hfault⟩ := id hs
  cases hop with
  | reset => exact absurd rfl hreset
  | start hnone => exact absurd hnone hfault
  | startFaulted _ => exact ⟨hs, rfl⟩
  | stop => exact ⟨⟨rfl, hfault⟩, rfl⟩
  | step hstep =>
    cases (step_of_stopped hstopped).symm.trans hstep
    exact ⟨hs, rfl⟩
  | setRegister16 q =>
    rw [State.faulted, State.put16_running, State.put16_fault]
    exact ⟨hs, rfl⟩
  | loadProgram | clear | setRegister | writeByte | writeWord => exact ⟨hs, rfl⟩

/-- Settles O12: no other operation leaves the faulted state, and Reset clears the record. -/
theorem onlyResetLeavesFaulted : Obligations.OnlyResetLeavesFaulted := fun _ hs =>
  ⟨fun _ _ hreset happly => (HostOp.leads_of_hostApply happly).keepsFaulted hs hreset, rfl, rfl⟩

end Sys2Proof.Machine
end

section
/-!
The run state after an instruction (O13).

`Effect.KeepsRunState s` says of an effect that it has the run flag and the fault record of `s` where it goes on; where
it raises, `finish` takes the fault. It holds of the memory primitives, is carried along `andThen`, and so gives the run
state after every instruction but HALT; a SYS_HANDLER reaches neither but by raising (60_exceptions.md R218).
-/

namespace Sys2Proof.Machine

/-! ### Effects that keep the run state -/

/-- An effect that has the run flag and the fault record of `s` where it goes on. -/
def Effect.KeepsRunState {α : Type} (s : State) : Effect α → Prop
  | .done _ t => t.running = s.running ∧ t.fault = s.fault
  | .raise _ _ => True

theorem Effect.KeepsRunState.andThen {α β : Type} {s : State} {r : Effect α} {k : α → State → Effect β}
    (h : r.KeepsRunState s) (hk : ∀ v t, (k v t).KeepsRunState t) : (r.andThen k).KeepsRunState s := by
  cases r with
  | raise f t => trivial
  | done v t =>
    have hkt := hk v t
    rw [Effect.andThen_done]
    cases hr : k v t with
    | raise f u => trivial
    | done w u =>
      rw [hr] at hkt
      obtain ⟨hrun, hfault⟩ := h
      obtain ⟨hrun', hfault'⟩ := hkt
      exact ⟨hrun'.trans hrun, hfault'.trans hfault⟩

/-- Where an outcome is a next state, that is Faulted, or has the run flag and the fault record of `s`. -/
def NextFaultsOrKeeps (s : State) (o : Host.Outcome State Fault Refusal) : Prop :=
  ∀ t, o = .next t → t.faulted ∨ (t.running = s.running ∧ t.fault = s.fault)

section
variable {s : State}

theorem NextFaultsOrKeeps.takeFault (k : Fault) (t : State) : NextFaultsOrKeeps s (.next (takeFault k t)) :=
  fun _ hu => .inl (Host.Outcome.next.inj hu ▸ ⟨rfl, nofun⟩)

theorem NextFaultsOrKeeps.countInstruction {t : State} (h : t.running = s.running ∧ t.fault = s.fault) :
    NextFaultsOrKeeps s (.next (countInstruction t)) := fun _ hu => .inr (Host.Outcome.next.inj hu ▸ h)

theorem finish_faultsOrKeeps {r : Effect Unit} (h : r.KeepsRunState s) : NextFaultsOrKeeps s (finish r) := by
  cases r with
  | done v t => exact .countInstruction h
  | raise k t => exact .takeFault k t

/-! ### Memory and stack -/

theorem readByte_keepsRunState (a : Nat) : (readByte a s).KeepsRunState s := by
  rcases Nat.lt_or_ge a s.config.memSize with hin | hout
  · rw [readByte_in hin]
    exact ⟨rfl, rfl⟩
  · rw [readByte_out hout]
    trivial

theorem writeByte_keepsRunState (a : Nat) (v : Byte) : (writeByte a v s).KeepsRunState s := by
  rcases Nat.lt_or_ge a s.config.memSize with hin | hout
  · rw [writeByte_in v hin]
    exact ⟨rfl, rfl⟩
  · rw [writeByte_out v hout]
    trivial

theorem readWord_keepsRunState (a : Nat) : (readWord a s).KeepsRunState s :=
  (readByte_keepsRunState a).andThen fun _ _ => (readByte_keepsRunState (a + 1)).andThen fun _ _ => ⟨rfl, rfl⟩

theorem writeWord_keepsRunState (a : Nat) (v : Word) : (writeWord a v s).KeepsRunState s := by
  rcases Nat.lt_or_ge a s.config.memSize with hin | hout
  · rcases Nat.lt_or_ge (a + 1) s.config.memSize with hin1 | hout1
    · rw [writeWord_in v hin1]
      exact ⟨rfl, rfl⟩
    · rw [writeWord_edge v hin hout1]
      trivial
  · rw [writeWord_out v hout]
    trivial

theorem push8_keepsRunState (v : Byte) : (push8 v s).KeepsRunState s :=
  (writeByte_keepsRunState _ v).andThen fun _ _ => ⟨rfl, rfl⟩

theorem pop8_keepsRunState : (pop8 s).KeepsRunState s := readByte_keepsRunState (s := s.set16 .sp (s.sp + 1#16)) _

theorem push16_keepsRunState (v : Word) : (push16 v s).KeepsRunState s :=
  (push8_keepsRunState _).andThen fun _ _ => push8_keepsRunState _

theorem pop16_keepsRunState : (pop16 s).KeepsRunState s :=
  pop8_keepsRunState.andThen fun _ _ => pop8_keepsRunState.andThen fun _ _ => ⟨rfl, rfl⟩

/-! ### The instructions -/

theorem withPair_keepsRunState (dst src : RegCode) {k : Reg8 → Reg8 → State → Effect Unit}
    (hk : ∀ x y, (k x y s).KeepsRunState s) : (withPair dst src k s).KeepsRunState s := by
  cases hd : reg8OfCode dst with
  | none =>
    rw [withPair_dst k s (reg8OfCode_eq_none.mp hd)]
    trivial
  | some x =>
    cases hs : reg8OfCode src with
    | none =>
      rw [withPair_src k s hd (reg8OfCode_eq_none.mp hs)]
      trivial
    | some y =>
      rw [withPair_valid k s hd hs]
      exact hk x y

theorem put16_keepsRunState (q : Reg16) (v : Word) : (Effect.done () (s.put16 q v)).KeepsRunState s :=
  ⟨State.put16_running q v s, State.put16_fault q v s⟩

/-- A jump writes pc or nothing (43_jumps_calls.md R140, R149). -/
theorem jump_keepsRunState (taken : Bool) (a : Word) :
    (Effect.done () (if taken then s.set16 .pc a else s)).KeepsRunState s := by
  cases taken <;> exact ⟨rfl, rfl⟩

theorem loadA_keepsRunState (a : Nat) : (loadA a s).KeepsRunState s :=
  (readByte_keepsRunState a).andThen fun _ _ => ⟨rfl, rfl⟩

/-- A SYS_HANDLER reaches the run flag and the record by raising alone (40_control.md R94). -/
theorem execSys_faultsOrKeeps (n : Byte) : NextFaultsOrKeeps s (execSys n s) := by
  intro t ht
  cases hs : s.sysHandler with
  | none => cases (execSys_none hs).symm.trans ht
  | some hd =>
    rw [execSys_some hs] at ht
    cases hr : hd.reply n s.arch with
    | completes u =>
      rw [sysWith_completes _ hr] at ht
      exact NextFaultsOrKeeps.countInstruction (t := s.afterHandler hd.writesPc u) ⟨rfl, rfl⟩ t ht
    | raises k u =>
      rw [sysWith_raises _ hr] at ht
      exact NextFaultsOrKeeps.takeFault k _ t ht
    | refuses => cases (sysWith_refuses _ hr).symm.trans ht

/-- HALT alone stops the core without a fault (60_exceptions.md R218): of the others, those that cannot fault write
registers and flags, and the rest add an access of memory or the check of a register-pair byte. -/
theorem exec_faultsOrKeeps {i : Instr} (hi : i ≠ .halt) : NextFaultsOrKeeps s (exec i s) := by
  cases i with
  | halt => exact absurd rfl hi
  | sys n => exact execSys_faultsOrKeeps n
  | nop
  | ldaImm | ldbImm | ldcImm | lddImm | ldeImm | ldfImm | swapDaDb | swapIdxIdy
  | incA | incB | incC | incD | incE | incF | decA | decB | decC | decD | decE | decF
  | notA | notB | notC | notD | notE | notF | shlA | shlB | shlC | shlD | shlE | shlF
  | shrA | shrB | shrC | shrD | shrE | shrF
  | incDa | incDb | decDa | decDb | addDaDb | addDbDa | subDaDb | subDbDa
  | cmpAImm | cmpBImm | cmpCImm | cmpDImm | cmpEImm | cmpFImm | cmpDaImm | cmpDbImm | cmpDaDb | cmpDbDa
  | incIdx | incIdy | decIdx | decIdy | addIdxImm | addIdyImm => exact .countInstruction ⟨rfl, rfl⟩
  | lddaImm | lddbImm | ldixImm | ldiyImm
  | movDaDb | movDbDa | movDaIdx | movDaIdy | movDbIdx | movDbIdy
  | movIdxDa | movIdyDa | movIdxDb | movIdyDb | movIdxIdy | movIdyIdx =>
    exact finish_faultsOrKeeps (put16_keepsRunState _ _)
  | addReg | subReg | cmpReg | andReg | orReg | xorReg | movReg | swapReg =>
    exact finish_faultsOrKeeps (withPair_keepsRunState _ _ fun _ _ => ⟨rfl, rfl⟩)
  | jmp | jz | jnz | jc | jnc | jn | jnn | jr | jrz | jrnz | jrc =>
    exact finish_faultsOrKeeps (jump_keepsRunState _ _)
  | call => exact finish_faultsOrKeeps ((push16_keepsRunState _).andThen fun _ _ => ⟨rfl, rfl⟩)
  | ret => exact finish_faultsOrKeeps (pop16_keepsRunState.andThen fun _ _ => ⟨rfl, rfl⟩)
  | pushA | pushB | pushC | pushD | pushE | pushF => exact finish_faultsOrKeeps (push8_keepsRunState _)
  | pushDa | pushDb => exact finish_faultsOrKeeps (push16_keepsRunState _)
  | popA | popB | popC | popD | popE | popF =>
    exact finish_faultsOrKeeps (pop8_keepsRunState.andThen fun _ _ => ⟨rfl, rfl⟩)
  | popDa | popDb => exact finish_faultsOrKeeps (pop16_keepsRunState.andThen fun _ _ => put16_keepsRunState _ _)
  | ldaAbs | ldbAbs | ldcAbs | lddAbs | ldeAbs | ldfAbs =>
    exact finish_faultsOrKeeps ((readByte_keepsRunState _).andThen fun _ _ => ⟨rfl, rfl⟩)
  | lddaAbs | lddbAbs | ldixAbs | ldiyAbs =>
    exact finish_faultsOrKeeps ((readWord_keepsRunState _).andThen fun _ _ => put16_keepsRunState _ _)
  | staAbs | stbAbs | stcAbs | stdAbs | steAbs | stfAbs | staIdx | staIdy | staIdxDisp | staIdyDisp =>
    exact finish_faultsOrKeeps (writeByte_keepsRunState _ _)
  | stdaAbs | stdbAbs => exact finish_faultsOrKeeps (writeWord_keepsRunState _ _)
  | ldaIdx | ldaIdy | ldaIdxDisp | ldaIdyDisp => exact finish_faultsOrKeeps (loadA_keepsRunState _)
  | ldaIdxInc | ldaIdyInc | ldaIdxDec | ldaIdyDec =>
    exact finish_faultsOrKeeps ((loadA_keepsRunState _).andThen fun _ _ => ⟨rfl, rfl⟩)
  | staIdxInc | staIdyInc | staIdxDec | staIdyDec =>
    exact finish_faultsOrKeeps ((writeByte_keepsRunState _ _).andThen fun _ _ => ⟨rfl, rfl⟩)

end

theorem exec_halt_halted {s t : State} (hnone : s.fault = none) (h : exec .halt s = .next t) : t.halted :=
  Host.Outcome.next.inj h ▸ ⟨rfl, hnone⟩

/-- Settles O13: HALT clears the run flag, and every other instruction takes a fault or leaves the run state. -/
theorem runStateTransitions : Obligations.RunStateTransitions := by
  intro i s t hrun hnone hexec
  by_cases hi : i = .halt
  · exact .inl ⟨hi, exec_halt_halted hnone (hi ▸ hexec)⟩
  · rcases exec_faultsOrKeeps hi t hexec with hfaulted | ⟨hrun', hfault'⟩
    · exact .inr (.inl ⟨hi, hfaulted⟩)
    · exact .inr (.inr ⟨hi, hrun'.trans hrun, hfault'.trans hnone⟩)

end Sys2Proof.Machine
end

section
/-!
No step depends on the clock mode or on a counter (O17), by the twins of O16: here the unread parts have the same
Overflow, so a SYS_HANDLER is called alike in both.
-/

namespace Sys2Proof.Machine

/-- Two unread parts `y` and `z` with the same Overflow, `z` with the clock mode `mode`; the counters of `y` have moved
from those of `x` by as much as those of `z` from `n` and `c`. -/
structure Unread.SameTime (x : Unread) (mode : Option ClockMode) (n c : Nat) (y z : Unread) : Prop where
  overflow : z.overflow = y.overflow
  mode : z.mode = mode
  instructions : z.instructionsExecuted + x.instructionsExecuted = y.instructionsExecuted + n
  cycles : z.cyclesExecuted + x.cyclesExecuted = y.cyclesExecuted + c

theorem Unread.sameTime_carried {x : Unread} {mode : Option ClockMode} {n c : Nat} :
    Unread.Carried (Unread.SameTime x mode n c) where
  draw h _ := { h with overflow := rfl }
  count h :=
    { h with
      instructions := by simpa [Nat.add_right_comm] using h.instructions
      cycles := by simpa [Nat.add_right_comm] using h.cycles }

theorem twin_withTime (s : State) (mode : Option ClockMode) (n c : Nat) :
    Twin (Unread.SameTime s.unread mode n c) s
      { s with mode := mode, instructionsExecuted := n, cyclesExecuted := c } :=
  ⟨⟨s.flags.o, mode, n, c⟩, rfl, rfl, rfl, Nat.add_comm _ _, Nat.add_comm _ _⟩

section
variable {Q : Unread → Unread → Prop} {s u : State}

/-- A handler leaves twins, with the Overflow it writes (40_control.md R94). -/
theorem Twin.afterHandler (hQ : Unread.Carried Q) (h : Twin Q s u) (writesPc : Bool) (v : ArchState) :
    Twin Q (s.afterHandler writesPc v) (u.afterHandler writesPc v) := by
  obtain ⟨y, rfl, hy⟩ := h
  exact ⟨_, rfl, hQ.draw hy v.flags.o⟩

/-- What a SYS_HANDLER may read is the same in twins with the same Overflow. -/
theorem Twin.arch_eq (hO : ∀ y z, Q y z → z.overflow = y.overflow) (h : Twin Q s u) :
    u.arch = s.arch := by
  obtain ⟨y, rfl, hy⟩ := h
  simp [State.arch, State.withUnread, hO _ _ hy, State.unread]

/-- Twins with the same Overflow run a SYS alike. -/
theorem execSys_twins (hQ : Unread.Carried Q) (hO : ∀ y z, Q y z → z.overflow = y.overflow) (h : Twin Q s u)
    (n : Byte) : NextTwins Q (execSys n s) (execSys n u) := by
  have harch := h.arch_eq hO
  have hhandler : u.sysHandler = s.sysHandler := by
    obtain ⟨y, rfl, _⟩ := h
    rfl
  intro t ht
  cases hs : s.sysHandler with
  | none => cases (execSys_none hs).symm.trans ht
  | some hd =>
    rw [execSys_some hs] at ht
    rw [execSys_some (hhandler.trans hs)]
    cases hr : hd.reply n s.arch with
    | completes v =>
      rw [sysWith_completes _ hr] at ht
      rw [sysWith_completes _ (harch ▸ hr)]
      exact NextTwins.next ((h.afterHandler hQ _ v).countInstruction hQ) t ht
    | raises k v =>
      rw [sysWith_raises _ hr] at ht
      rw [sysWith_raises _ (harch ▸ hr)]
      exact NextTwins.next ((h.afterHandler hQ _ v).takeFault k) t ht
    | refuses => cases (sysWith_refuses _ hr).symm.trans ht

theorem Twin.sameBut_time (hO : ∀ y z, Q y z → z.overflow = y.overflow) (h : Twin Q s u) :
    State.sameBut [.mode, .instructionsExecuted, .cyclesExecuted] s u := by
  obtain ⟨y, rfl, hy⟩ := h
  intro l hl
  cases l with
  | reg8 r => cases r <;> rfl
  | reg16 p => cases p <;> rfl
  | mode | instructionsExecuted | cyclesExecuted => simp at hl
  | flagO => exact hO _ _ hy
  | _ => rfl

end

/-- Settles O17: the two states are twins, and so are those their steps lead to, a SYS under a handler too. -/
theorem timeIsInvisible : Obligations.TimeIsInvisible := by
  intro s t mode n c hstep
  have htwins := step_twins Unread.sameTime_carried (twin_withTime s mode n c) fun m _ _ _ h =>
    execSys_twins Unread.sameTime_carried (fun _ _ => Unread.SameTime.overflow) h m
  obtain ⟨u, hu, htu⟩ := htwins t hstep
  refine ⟨u, hu, htu.sameBut_time fun _ _ => Unread.SameTime.overflow, ?_⟩
  obtain ⟨y, rfl, hy⟩ := htu
  exact ⟨hy.mode, hy.instructions, hy.cycles⟩

end Sys2Proof.Machine
end
